-- ==== Sys2Proof/Word.lean ====
section
/-! DEFINITION. The word types of WS-LPC: the 12-bit command word and its two fields, and the byte. -/

namespace Sys2Proof

/-- A command word `{OP[3:0], ARG[7:0]}` as it stands on the port `cmd[11:0]` (30_encoding.md R90). -/
abbrev CmdWord := BitVec 12

/-- The `OP` field of a command word, and the register `OPR` (R90, R28). -/
abbrev OpField := BitVec 4

/-- A byte: `ARG`, `TXSH`, one `DATA[i]` (R90, R31, R32). -/
abbrev Byte := BitVec 8

end Sys2Proof
end

