-- ==== Sys2Proof/Syntax.lean ====
section
/-! DEFINITION. The commands of WS-LPC: one constructor per row of spec/opcode_table.json. -/

namespace Sys2Proof

/-- The five commands (30_encoding.md R92). Only WRITE_BYTE has an operand; the others ignore `ARG` and do not store it (R91). -/
inductive Instr where
  | start                   -- START, `start()`
  | stop                    -- STOP, `stop()`
  | writeByte (arg : Byte)  -- WRITE_BYTE, `writeByte(value)`
  | waitAck                 -- WAIT_ACK, `waitAck()`
  | sensorRead              -- SENSOR_READ, one pass of the sensor state machine
  deriving DecidableEq, Repr

end Sys2Proof
end

