-- ==== Sys2Proof/Decode.lean ====
section
/-! DEFINITION. The decoder and the encoder of the format CMD12 (30_encoding.md R90 to R93, R101). -/

namespace Sys2Proof

/-- Why a word is no command. -/
inductive DecodeError where
  /-- `OP` is one of 0x0, 0x5, 0x6, 0x7, 0x9 to 0xF (R93). The block accepts such a word and sets `ERR` to 4 (R97). -/
  | illegalOp (op : OpField)
  deriving DecidableEq, Repr

/-- Bits 11:8 (R90). -/
def opOf (w : CmdWord) : OpField := w.extractLsb' 8 4

/-- Bits 7:0 (R90), used as they stand (R91). -/
def argOf (w : CmdWord) : Byte := w.extractLsb' 0 8

/-- `{OP, ARG}`, OP in the more significant bits (R90, R12). -/
def mkWord (op : OpField) (arg : Byte) : CmdWord := op ++ arg

/-- The `OP` value of each command (R92). -/
def Instr.op : Instr → OpField
  | .start => 0x1#4
  | .stop => 0x2#4
  | .writeByte _ => 0x3#4
  | .waitAck => 0x4#4
  | .sensorRead => 0x8#4

/-- The `ARG` the assembler emits: the operand of WRITE_BYTE, 0x00 for the commands that ignore it (R101). -/
def Instr.argField : Instr → Byte
  | .start => 0x00#8
  | .stop => 0x00#8
  | .writeByte arg => arg
  | .waitAck => 0x00#8
  | .sensorRead => 0x00#8

/-- Every 12-bit word is one of the five commands or illegal (R93). -/
def decode (w : CmdWord) : Except DecodeError Instr :=
  if opOf w = 0x1#4 then .ok .start
  else if opOf w = 0x2#4 then .ok .stop
  else if opOf w = 0x3#4 then .ok (.writeByte (argOf w))
  else if opOf w = 0x4#4 then .ok .waitAck
  else if opOf w = 0x8#4 then .ok .sensorRead
  else .error (.illegalOp (opOf w))

/-- The command word of a command (R92, R101). -/
def encode (i : Instr) : CmdWord := mkWord i.op i.argField

/-- The twelve wires of the port `cmd` for an instruction numbered as spec/opcode_table.json numbers it: bits at or above `nbits` are 0,
and the port has no bit above bit 11 (log entry 5). -/
def tableWord (nbits w : Nat) : CmdWord := BitVec.ofNat 12 (w % 2 ^ nbits)

/-- The command the decoder reads from a word of spec/opcode_table.json. -/
def decodeTableWord (nbits w : Nat) : Option Instr :=
  match decode (tableWord nbits w) with
  | .ok i => some i
  | .error _ => none

end Sys2Proof
end

