-- ==== Sys2Proof/Config.lean ====
section
/-! DEFINITION. What is fixed for one machine or left free by the spec: the parameters of 00_scope.md R10, the constants of
R9, the input record of R22 and the free oracle that supplies it where no input is scheduled. -/

namespace Sys2Proof

/-- The input record `I` of one tick (10_state.md R22). The clock itself is not an input: one record is one tick. -/
structure Input where
  rst      : Bool
  cmdValid : Bool
  cmd      : CmdWord
  sdaI     : Bool
  dqI      : Bool
  dlyDone  : Bool
  deriving DecidableEq, Repr, Inhabited

/-- The parameters the block is built with (00_scope.md R10): `none` is the source design's unbounded wait, `some n` the corrected
design's wait of at most `n` polls (60_exceptions.md R243). -/
structure Params where
  ackTimeout    : Option Nat
  sensorTimeout : Option Nat
  tocntW        : Nat
  deriving DecidableEq, Repr

/-- The spec's defaults (R10). DESIGN CHOICE (log entry 2): `TOCNT_W` is open and not needed while both timeouts are `none`; it
is 16 here. -/
def Params.default : Params := { ackTimeout := none, sensorTimeout := none, tocntW := 16 }

/-- The parameters of the host's sequences (R10, D24, D32); durations in nanoseconds. -/
structure HostParams where
  devAddrW  : Byte
  tEnShort  : Nat
  tEnLong   : Nat
  initBytes : List Byte
  deriving DecidableEq, Repr

namespace Config

/-- The inputs of tick `n` where none is scheduled (R20, R22, R65): a free oracle, under no law (log entry 1). -/
opaque freeInput : Nat → Input

/-- `T_REQ`, 20 ms, in nanoseconds (R9). -/
def tReq : Nat := 20000000

/-- `T_SAMPLE`, 30 microseconds, in nanoseconds (R9). -/
def tSample : Nat := 30000

/-- The display's address byte in write form, the default of `DEV_ADDR_W` (R9, R201). -/
def devAddrW : Byte := 0x4E#8

/-- The five bytes of the initialisation sequence in the document's order (R209). PRESUMED (log entry 6): which byte goes with which
name is from general knowledge (D32). -/
def lcdInitBytes : List Byte := [0x02#8, 0x28#8, 0x0C#8, 0x06#8, 0x01#8]

/-- The host parameters with the spec's default address and pairing, and the two open delays as arguments (R10, R212). -/
def hostParams (tEnShort tEnLong : Nat) : HostParams :=
  { devAddrW := devAddrW, tEnShort := tEnShort, tEnLong := tEnLong, initBytes := lcdInitBytes }

/-- `N_s = ceil(duration(s) / T_TICK)` (60_exceptions.md R257), both in nanoseconds, `T_TICK` positive (log entry 11). -/
def delayTicks (tTick duration : Nat) : Nat := (duration + tTick - 1) / tTick

end Config

end Sys2Proof
end

