-- ==== Sys2Proof/Machine/State.lean ====
section
/-! DEFINITION. The state of WS-LPC (10_state.md R38), the reasons a step can stop, and the state after reset. -/

namespace Sys2Proof.Machine

/-- The outcome of the most recently accepted command word (10_state.md R35). The values 5, 6, 7 never occur, so the type has five
(93_implementation_defined.md U17). -/
inductive Err where
  | none
  | busAckTimeout
  | sensorHandshakeTimeout
  | sensorBitTimeout
  | illegalCommand
  deriving DecidableEq, Repr

/-- The three bits of `ERR` as the port `err` shows them (R35). -/
def Err.code : Err → BitVec 3
  | .none => 0#3
  | .busAckTimeout => 1#3
  | .sensorHandshakeTimeout => 2#3
  | .sensorBitTimeout => 3#3
  | .illegalCommand => 4#3

/-- The whole state. The first twelve fields are the spec's elements (R38); `cfg`, `inputs` and `tick` are the model's own: the
constant parameters of R10 (log entry 2), the inputs of the coming ticks and the count of ticks done (log entry 1). -/
structure State where
  sclOut : Bool
  sdaOut : Bool
  dqOe   : Bool
  busy   : Bool
  opr    : OpField
  phase  : BitVec 4
  bitcnt : BitVec 6
  txsh   : Byte
  rxsh   : BitVec 40
  rvalid : Bool
  err    : Err
  tocnt  : Nat
  cfg    : Params
  inputs : List Input
  tick   : Nat
  deriving DecidableEq, Repr

/-- The block has no event that stops it: an error is a next state with a non-zero `ERR` (60_exceptions.md R252), a hang an infinite
run (R248). So nothing raises a fault and the type is empty (log entry 13). -/
inductive Fault where
  deriving DecidableEq, Repr

/-- Why a step answers no next state. -/
inductive Refusal where
  /-- An instruction whose meaning is not written; raised by no arm of `exec`. Safe. -/
  | notModelled (mnemonic : String)
  /-- Raised by `runPhase` on a busy state whose `(OPR, PHASE)` pair no micro-program names (30_encoding.md R98, U18; log entry 8). Such a
  state is unreachable (R39(c)). Safe. -/
  | unreachablePhase (opr : OpField) (phase : BitVec 4)
  /-- Raised by `runPhase` on a busy state with `BITCNT` above 40 (U18; log entry 8). Such a state is unreachable (R30, R39(e)). Safe. -/
  | bitCountOutOfRange (bitcnt : BitVec 6)
  deriving DecidableEq, Repr

/-- The outcome of one tick. -/
abbrev Result := Host.Outcome State Fault Refusal

/-- The machine right after reset (R38): the spec's value for each of its elements, the default parameters (R10), and nothing
scheduled on the inputs (log entries 1 and 2). -/
def State.reset : State :=
  { sclOut := true, sdaOut := true, dqOe := false, busy := false, opr := 0x0#4, phase := 0#4, bitcnt := 0#6, txsh := 0x00#8,
    rxsh := 0#40, rvalid := false, err := .none, tocnt := 0, cfg := Params.default, inputs := [], tick := 0 }

end Sys2Proof.Machine
end

