-- ==== Sys2Proof/Machine/Operands.lean ====
section
/-! DEFINITION. What a tick reads: the input record of the tick, the two sampled lines, and the bit and byte orders of
20_memory.md R69 to R71. -/

namespace Sys2Proof.Machine

/-- The input record of the `k`-th tick from now: the schedule's, or the free oracle's where the schedule is exhausted
(10_state.md R22; log entry 1). -/
def State.inputAt (s : State) (k : Nat) : Input := (s.inputs[k]?).getD (Config.freeInput (s.tick + k))

/-- The input record of this tick. -/
def State.input (s : State) : Input := s.inputAt 0

/-- A line the block samples (R64): there is no `Sample(SCL)`. -/
inductive InLine where
  | sda
  | dq
  deriving DecidableEq, Repr

/-- The level of a line in one input record (R64). -/
def InLine.level (i : Input) : InLine → Bool
  | .sda => i.sdaI
  | .dq => i.dqI

/-- `Sample(L)` (R64): the level on this tick, true for high. -/
def State.sample (s : State) (l : InLine) : Bool := l.level s.input

/-- `TXSH[7]`, the next bit of WRITE_BYTE (10_state.md R31). -/
def State.txBit (s : State) : Bool := s.txsh.getLsbD 7

/-- `Ser8(v)`: the bits of a byte, most significant first (R71, R69). -/
def ser8 (v : Byte) : List Bool :=
  [v.getLsbD 7, v.getLsbD 6, v.getLsbD 5, v.getLsbD 4, v.getLsbD 3, v.getLsbD 2, v.getLsbD 1, v.getLsbD 0]

/-- `Pack(bits)`: the number whose most significant bit is the first of the list (R71). -/
def pack (bits : List Bool) : Nat := bits.foldl (fun n b => 2 * n + b.toNat) 0

/-- `(TXSH << 1)[7:0]` (10_state.md R41(b)). -/
def shiftOut (v : Byte) : Byte := v <<< 1

/-- `((RXSH << 1) | b)[39:0]` (R41(b)). -/
def shiftIn (v : BitVec 40) (b : Bool) : BitVec 40 := v <<< 1 ||| BitVec.ofNat 40 b.toNat

end Sys2Proof.Machine
end

