-- ==== Sys2Proof/Machine/Ops.lean ====
section
/-! DEFINITION. The shared operations: the line primitives of 20_memory.md R61 to R68, the sequencer's moves, acceptance, completion,
failure (the block's exception entry) and reset. -/

namespace Sys2Proof.Machine

/-- A line with an output latch (R61). -/
inductive OutLine where
  | scl
  | sda
  deriving DecidableEq, Repr

/-- `Drive(L, b)` (R61). -/
def State.drive (s : State) : OutLine → Bool → State
  | .scl, b => { s with sclOut := b }
  | .sda, b => { s with sdaOut := b }

/-- `DriveLow(DQ)` (R62). -/
def State.driveLow (s : State) : State := { s with dqOe := true }

/-- `Release(DQ)` (R62). -/
def State.release (s : State) : State := { s with dqOe := false }

/-- `PHASE <- p`, which also sets `TOCNT` to 0 (10_state.md R36). -/
def State.setPhase (s : State) (p : BitVec 4) : State := { s with phase := p, tocnt := 0 }

/-- `Complete` (30_encoding.md R99). -/
def State.complete (s : State) : State := { s with busy := false, phase := 0#4, tocnt := 0 }

/-- `Fail(code)` (60_exceptions.md R246): what stands for taking an exception (R252). The code is saved in `ERR`, the sequencer becomes
idle, nothing else changes. -/
def State.fail (s : State) (code : Err) : State := { s with err := code, busy := false, phase := 0#4, tocnt := 0 }

/-- Acceptance of an illegal word (R97, R245): the exception of code 4, which does not go through `Fail`. -/
def State.acceptIllegal (s : State) : State := { s with err := .illegalCommand }

/-- What every acceptance of a legal word does (R95); by clearing `ERR` it is also what stands for the return from an exception (R253). -/
def State.acceptLegal (s : State) (op : OpField) : State :=
  { s with busy := true, opr := op, phase := 0#4, tocnt := 0, err := .none }

/-- The successor a waiting step names (R67): a phase, or the word `done`. -/
inductive Successor where
  | phase (p : BitVec 4)
  | done
  deriving DecidableEq, Repr

/-- Moving on to a successor: `PHASE <- next; TOCNT <- 0`, or `Complete` (R67). -/
def State.moveOn (s : State) : Successor → State
  | .phase p => s.setPhase p
  | .done => s.complete

/-- One unsuccessful poll of a bounded wait that is not its last: `TOCNT <- TOCNT + 1`, taken mod `2^TOCNT_W` (R67, R12). -/
def State.countPoll (s : State) : State := { s with tocnt := (s.tocnt + 1) % 2 ^ s.cfg.tocntW }

/-- An unsuccessful poll (R67): spin when there is no limit; else fail on the `limit`-th, and count those before. -/
def State.pollMiss (s : State) (limit : Option Nat) (code : Err) : State :=
  match limit with
  | none => s
  | some n => if n ≤ s.tocnt + 1 then s.fail code else s.countPoll

/-- `WaitWhile(L, v, limit, code, next)` (R67): the sample is tested first (60_exceptions.md R251). -/
def State.waitWhile (s : State) (l : InLine) (v : Bool) (limit : Option Nat) (code : Err) (nxt : Successor) : State :=
  if s.sample l = v then s.pollMiss limit code else s.moveOn nxt

/-- `Delay(sel, next)` (R68); `sel` is the output `dly_sel`, a function of the phase (10_state.md R23). -/
def State.delay (s : State) (nxt : BitVec 4) : State := if s.input.dlyDone then s.setPhase nxt else s

/-- The block's reset (70_reset_and_hazards.md R280): all twelve elements take their reset values (R38); the parameters and the
input stream are not the block's state. -/
def State.resetBlock (s : State) : State := { State.reset with cfg := s.cfg, inputs := s.inputs, tick := s.tick }

/-- The end of a tick: the tick's input record is used up (R22, R65). -/
def State.nextTick (s : State) : State := { s with inputs := s.inputs.tail, tick := s.tick + 1 }

/-- `n` ticks go by and the block's elements stay as they are. -/
def State.skipTicks (s : State) (n : Nat) : State := { s with inputs := s.inputs.drop n, tick := s.tick + n }

/-- The end of a tick whose work has an outcome. -/
def endTick : Result → Result
  | .next s => .next s.nextTick
  | .fault f => .fault f
  | .refused r => .refused r

/-- The state with `w` presented on the command port of this tick to an idle, unreset block: what it takes for `w` to be accepted now
(R94). The other inputs of the tick and those of every later tick stay. -/
def State.presentWord (s : State) (w : CmdWord) : State :=
  { s with busy := false, inputs := { s.input with rst := false, cmdValid := true, cmd := w } :: s.inputs.tail }

end Sys2Proof.Machine
end

