-- ==== Sys2Proof/Machine/BusMaster.lean ====
section
/-! DEFINITION. The micro-programs of the Two-Wire Bus Master (40_bus_master.md): one tick of START, STOP, WRITE_BYTE and WAIT_ACK in
progress. A phase a micro-program does not name is refused (30_encoding.md R98). -/

namespace Sys2Proof.Machine

/-- One tick of START (R122): data 1, clock 1, data 0, clock 0 (90_conflicts.md C1). -/
def startPhase (s : State) : Result :=
  match s.phase with
  | 0#4 => .next ((s.drive .sda true).setPhase 1#4)
  | 1#4 => .next ((s.drive .scl true).setPhase 2#4)
  | 2#4 => .next ((s.drive .sda false).setPhase 3#4)
  | 3#4 => .next (s.drive .scl false).complete
  | p => .refused (.unreachablePhase s.opr p)

/-- One tick of STOP (R125). -/
def stopPhase (s : State) : Result :=
  match s.phase with
  | 0#4 => .next ((s.drive .scl false).setPhase 1#4)
  | 1#4 => .next ((s.drive .sda false).setPhase 2#4)
  | 2#4 => .next ((s.drive .scl true).setPhase 3#4)
  | 3#4 => .next (s.drive .sda true).complete
  | p => .refused (.unreachablePhase s.opr p)

/-- `TXSH <- (TXSH << 1)[7:0]`; `BITCNT <- BITCNT - 1` (R132). -/
def shiftTx (s : State) : State := { s with txsh := shiftOut s.txsh, bitcnt := s.bitcnt - 1#6 }

/-- The bookkeeping of WRITE_BYTE phase 2 (R132): shift, count down, and complete after the last bit. -/
def nextTxBit (s : State) : State := if s.bitcnt = 1#6 then (shiftTx s).complete else (shiftTx s).setPhase 0#4

/-- One tick of WRITE_BYTE (R130 to R132). -/
def writeBytePhase (s : State) : Result :=
  match s.phase with
  | 0#4 => .next ((s.drive .scl false).setPhase 1#4)
  | 1#4 => .next ((s.drive .sda s.txBit).setPhase 2#4)
  | 2#4 => .next (nextTxBit (s.drive .scl true))
  | p => .refused (.unreachablePhase s.opr p)

/-- One tick of WAIT_ACK (R140 to R142), with no clock-low step (90_conflicts.md C2). -/
def waitAckPhase (s : State) : Result :=
  match s.phase with
  | 0#4 => .next ((s.drive .sda true).setPhase 1#4)
  | 1#4 => .next ((s.drive .scl true).setPhase 2#4)
  | 2#4 => .next (s.waitWhile .sda true s.cfg.ackTimeout .busAckTimeout .done)
  | p => .refused (.unreachablePhase s.opr p)

end Sys2Proof.Machine
end

