-- ==== Sys2Proof/Machine/SensorEngine.lean ====
section
/-! DEFINITION. The micro-program of the Single-Wire Sensor Protocol engine (41_sensor_engine.md R163 to R173): one tick of SENSOR_READ in
progress. -/

namespace Sys2Proof.Machine

/-- Phase 8 (R171): the sample is the bit, shifted in at bit 0 of `RXSH`. -/
def takeBit (s : State) : State :=
  { s with rxsh := shiftIn s.rxsh (s.sample .dq), bitcnt := s.bitcnt + 1#6 }

/-- The successor of phase 9 (R172). -/
def afterBit (s : State) : Successor := if s.bitcnt = 40#6 then .phase 10#4 else .phase 6#4

/-- A wait on the sensor line bounded by `SENSOR_TIMEOUT` (R166 to R169, R172). -/
def sensorWait (s : State) (v : Bool) (code : Err) (nxt : Successor) : State :=
  s.waitWhile .dq v s.cfg.sensorTimeout code nxt

/-- One tick of SENSOR_READ: Requesting (phases 0 to 2), AwaitingResponse (3 to 5), ReceivingBit (6 to 9), Done (10). -/
def sensorReadPhase (s : State) : Result :=
  match s.phase with
  | 0#4 => .next (s.driveLow.setPhase 1#4)
  | 1#4 => .next (s.delay 2#4)
  | 2#4 => .next (s.release.setPhase 3#4)
  | 3#4 => .next (sensorWait s true .sensorHandshakeTimeout (.phase 4#4))
  | 4#4 => .next (sensorWait s false .sensorHandshakeTimeout (.phase 5#4))
  | 5#4 => .next (sensorWait s true .sensorHandshakeTimeout (.phase 6#4))
  | 6#4 => .next (sensorWait s false .sensorBitTimeout (.phase 7#4))
  | 7#4 => .next (s.delay 8#4)
  | 8#4 => .next ((takeBit s).setPhase 9#4)
  | 9#4 => .next (sensorWait s true .sensorBitTimeout (afterBit s))
  | 10#4 => .next ({ s with rvalid := true } : State).complete
  | p => .refused (.unreachablePhase s.opr p)

end Sys2Proof.Machine
end

