-- ==== Sys2Proof/Machine/Sequencer.lean ====
section
/-! DEFINITION. The sequencer's dispatch on the command in progress (30_encoding.md R98), and the meaning of each command: one tick,
without reset, on which the host presents that command's word. An idle block accepts the word (R94, R95); a busy block
ignores it and runs one phase of the command in progress (R96), which is that same command's micro-program once it has been accepted
(log entry 4). -/

namespace Sys2Proof.Machine

/-- One phase of the command in progress (R98), refused where no reachable state is (R39, U18). -/
def runPhase (s : State) : Result :=
  if 40#6 < s.bitcnt then .refused (.bitCountOutOfRange s.bitcnt)
  else match s.opr with
    | 0x1#4 => startPhase s
    | 0x2#4 => stopPhase s
    | 0x3#4 => writeBytePhase s
    | 0x4#4 => waitAckPhase s
    | 0x8#4 => sensorReadPhase s
    | op => .refused (.unreachablePhase op s.phase)

/-- START (40_bus_master.md R121, R122). -/
def execStart (s : State) : Result :=
  if s.busy then runPhase s else .next (s.acceptLegal 0x1#4)

/-- STOP (R124, R125). -/
def execStop (s : State) : Result :=
  if s.busy then runPhase s else .next (s.acceptLegal 0x2#4)

/-- WRITE_BYTE (R127 to R132), with its acceptance action (R128). -/
def execWriteByte (arg : Byte) (s : State) : Result :=
  if s.busy then runPhase s else .next { s.acceptLegal 0x3#4 with txsh := arg, bitcnt := 8#6 }

/-- WAIT_ACK (R137, R140 to R142). -/
def execWaitAck (s : State) : Result :=
  if s.busy then runPhase s else .next (s.acceptLegal 0x4#4)

/-- SENSOR_READ (41_sensor_engine.md R161 to R173), with its acceptance action (R162). -/
def execSensorRead (s : State) : Result :=
  if s.busy then runPhase s else .next { s.acceptLegal 0x8#4 with rxsh := 0#40, rvalid := false, bitcnt := 0#6 }

end Sys2Proof.Machine
end

