-- ==== Sys2Proof/Machine/Dispatch.lean ====
section
/-! DEFINITION. One arm per command. -/

namespace Sys2Proof.Machine

def exec (i : Instr) (s : State) : Host.Outcome State Fault Refusal :=
  match i with
  | .start => Sys2Proof.Machine.execStart s
  | .stop => Sys2Proof.Machine.execStop s
  | .writeByte arg => Sys2Proof.Machine.execWriteByte arg s
  | .waitAck => Sys2Proof.Machine.execWaitAck s
  | .sensorRead => Sys2Proof.Machine.execSensorRead s

end Sys2Proof.Machine
end

