-- ==== Sys2Proof/Machine/Step.lean ====
section
/-! DEFINITION. The step function `Tick` (30_encoding.md R98) over the tick's own input record, and the host's way of placing the next command. -/

namespace Sys2Proof.Machine

/-- One tick (R98, R251): reset overrides everything; a busy block runs a phase of the command in progress; an idle one accepts the word
presented, legal or not, or stays as it is. Every tick uses up one input record. -/
def step (s : State) : Host.Outcome State Fault Refusal :=
  if s.input.rst then .next s.resetBlock.nextTick
  else if s.busy then endTick (runPhase s)
  else if s.input.cmdValid then
    match decode s.input.cmd with
    | .ok i => endTick (exec i s)
    | .error _ => .next s.acceptIllegal.nextTick
  else .next s.nextTick

/-- The host presents the word on this tick (log entry 3). -/
def State.withFetchWord (s : State) (nbits w : Nat) : State := s.presentWord (tableWord nbits w)

end Sys2Proof.Machine
end

