-- ==== Sys2Proof/Machine/Flags.lean ====
section
/-! DEFINITION. What is computed from the state: `DATA`, `CHKOK`, the output ports (10_state.md R23, R32, R34) and the ghost
`OWNER` (R26). -/

namespace Sys2Proof.Machine

/-- `DATA[i] = RXSH[39-8*i : 32-8*i]` (R32). -/
def State.data (s : State) (i : Fin 5) : Byte := s.rxsh.extractLsb' (32 - 8 * i.val) 8

/-- `CHKOK` (R34): the sum of the first four bytes truncated to 8 bits is the fifth, gated by `RVALID`. -/
def State.chkok (s : State) : Bool :=
  s.rvalid && (s.data 0 + s.data 1 + s.data 2 + s.data 3 == s.data 4)

/-- `dly_req` (R23). -/
def State.dlyReq (s : State) : Bool := s.busy && s.opr == 0x8#4 && (s.phase == 1#4 || s.phase == 7#4)

/-- `dly_sel` (R23): false selects `T_REQ`, true `T_SAMPLE`. -/
def State.dlySel (s : State) : Bool := s.phase == 7#4

/-- The duration `dly_sel` asks for, in nanoseconds (60_exceptions.md R256). -/
def delayDuration (sel : Bool) : Nat := if sel then Config.tSample else Config.tReq

/-- The output ports (R21). -/
structure Outputs where
  cmdReady : Bool
  busy     : Bool
  err      : BitVec 3
  rvalid   : Bool
  chkok    : Bool
  rdata    : BitVec 40
  sclO     : Bool
  sdaO     : Bool
  dqOe     : Bool
  dqO      : Bool
  dlyReq   : Bool
  dlySel   : Bool
  deriving DecidableEq, Repr

/-- Every output is a function of the state alone (R23). -/
def State.outputs (s : State) : Outputs :=
  { cmdReady := !s.busy, busy := s.busy, err := s.err.code, rvalid := s.rvalid, chkok := s.chkok, rdata := s.rxsh,
    sclO := s.sclOut, sdaO := s.sdaOut, dqOe := s.dqOe, dqO := false, dlyReq := s.dlyReq, dlySel := s.dlySel }

/-- The document's "Protocol Line State" (R26). -/
inductive Owner where
  | heldLowByDriver
  | released
  | drivenBySensor
  deriving DecidableEq, Repr

/-- The ghost `OWNER(S)` (R26); no rule reads it. -/
def State.owner (s : State) : Owner :=
  if s.dqOe then .heldLowByDriver
  else if s.busy && s.opr == 0x8#4 && decide (4 ≤ s.phase.toNat ∧ s.phase.toNat ≤ 10) then .drivenBySensor
  else .released

end Sys2Proof.Machine
end

