-- ==== Sys2Proof/Machine/HostSequences.lean ====
section
/-! DEFINITION. The host's sequences (42_host_sequences.md R200 to R213, R284): pure expansions to commands and host delays. Nothing here
is the block's. -/

namespace Sys2Proof.Machine

/-- One line of a host program: a command of the block, or a delay the host makes itself, in nanoseconds (R101, R212). -/
inductive HostAct where
  | cmd (i : Instr)
  | delay (ns : Nat)
  deriving DecidableEq, Repr

/-- The two kinds of display unit (R202, R203). -/
inductive LcdKind where
  | command
  | data
  deriving DecidableEq, Repr

/-- The enable-high code `EH(K)` (R203). -/
def LcdKind.enableHigh : LcdKind → Byte
  | .command => 0x0C#8
  | .data => 0x0D#8

/-- The enable-low code `EL(K)` (R203). -/
def LcdKind.enableLow : LcdKind → Byte
  | .command => 0x08#8
  | .data => 0x09#8

/-- `U(v) = v & 0xF0` (R205). -/
def upperNibble (v : Byte) : Byte := v &&& 0xF0#8

/-- `L(v) = (v << 4) & 0xF0` (R205). -/
def lowerNibble (v : Byte) : Byte := (v <<< 4) &&& 0xF0#8

/-- `WRITE_BYTE b; WAIT_ACK`. -/
def sendByte (b : Byte) : List HostAct := [.cmd (.writeByte b), .cmd .waitAck]

/-- `FRAME a, b_1, ..., b_n` (R200). -/
def frame (a : Byte) (bs : List Byte) : List HostAct :=
  [.cmd .start] ++ sendByte a ++ bs.flatMap sendByte ++ [.cmd .stop]

/-- The four payload bytes of a display unit (R202, R206, R207). -/
def unitPayload (k : LcdKind) (v : Byte) : List Byte :=
  [upperNibble v ||| k.enableHigh, upperNibble v ||| k.enableLow, lowerNibble v ||| k.enableHigh, lowerNibble v ||| k.enableLow]

/-- One nibble of a unit: its enable-high byte and the short delay, its enable-low byte and the longer delay (R202). -/
def sendNibble (p : HostParams) (k : LcdKind) (nibble : Byte) : List HostAct :=
  sendByte (nibble ||| k.enableHigh) ++ [.delay p.tEnShort] ++ sendByte (nibble ||| k.enableLow) ++ [.delay p.tEnLong]

/-- The display command/data unit (R202). -/
def lcdUnit (p : HostParams) (k : LcdKind) (v : Byte) : List HostAct :=
  [.cmd .start] ++ sendByte p.devAddrW ++ sendNibble p k (upperNibble v) ++ sendNibble p k (lowerNibble v) ++ [.cmd .stop]

/-- The rows `LCD_GOTO` can address (R210). -/
inductive LcdRow where
  | row1
  | row2
  deriving DecidableEq, Repr

/-- The cursor command of a row (R210). -/
def LcdRow.command : LcdRow → Byte
  | .row1 => 0x80#8
  | .row2 => 0xC0#8

/-- The pseudo-instructions (30_encoding.md R102). They encode to nothing of their own. -/
inductive Pseudo where
  | frame (a b : Byte) (bs : List Byte)   -- FRAME a, b, bs...: at least one payload byte
  | lcdCmd (v : Byte)
  | lcdData (v : Byte)
  | lcdInit
  | lcdGoto (r : LcdRow)
  | lcdString (codes : List Byte)
  | hdelay (ns : Nat)
  deriving DecidableEq, Repr

/-- The expansion of a pseudo-instruction (R200, R206, R207, R209 to R212). -/
def Pseudo.expand (p : HostParams) : Pseudo → List HostAct
  | .frame a b bs => Machine.frame a (b :: bs)
  | .lcdCmd v => lcdUnit p .command v
  | .lcdData v => lcdUnit p .data v
  | .lcdInit => p.initBytes.flatMap (lcdUnit p .command)
  | .lcdGoto r => lcdUnit p .command r.command
  | .lcdString codes => codes.flatMap (lcdUnit p .data)
  | .hdelay ns => [.delay ns]

/-- `sendString`: the characters before the terminator (R211). The terminator's value is not in the source and is an argument
(log entry 12). -/
def sendString (terminator : Byte) (text : List Byte) : Pseudo := .lcdString (text.takeWhile (· ≠ terminator))

/-- The command words a host program presents, in order. -/
def hostWords (acts : List HostAct) : List CmdWord :=
  acts.filterMap fun a => match a with
    | .cmd i => some (encode i)
    | .delay _ => none

/-- The delays a host program makes, in order. -/
def hostDelays (acts : List HostAct) : List Nat :=
  acts.filterMap fun a => match a with
    | .cmd _ => none
    | .delay ns => some ns

/-- The host's display work after a reading (70_reset_and_hazards.md R284): the two texts when `chkok = 1`, the error text on row 1
otherwise. The texts' formatting is out of scope (00_scope.md R6(a)); they are arguments. -/
def showReading (chkok : Bool) (humText tempText errText : List Byte) : List Pseudo :=
  if chkok then [.lcdGoto .row1, .lcdString humText, .lcdGoto .row2, .lcdString tempText]
  else [.lcdGoto .row1, .lcdString errText]

end Sys2Proof.Machine
end

