-- ==== Sys2Proof/Machine/HostAgent.lean ====
section
/-! DEFINITION. A host that runs a program of commands on the block, line by line (30_encoding.md R101, 42_host_sequences.md R213): the environment of
particular statements, not state of the block (log entry 9). -/

namespace Sys2Proof.Machine

/-- What the host has still to do: a command to present, or one tick of a delay. -/
inductive HostOp where
  | cmd (i : Instr)
  | pause
  deriving DecidableEq, Repr

/-- A host program as ticks: a delay takes `ceil(ns / T_TICK)` of them (60_exceptions.md R257). -/
def hostOps (tTick : Nat) (acts : List HostAct) : List HostOp :=
  acts.flatMap fun a => match a with
    | .cmd i => [.cmd i]
    | .delay ns => List.replicate (Config.delayTicks tTick ns) .pause

/-- The host: what is left of its program, whether it has presented a command whose outcome it has not looked at yet, and the error code
it gave up on. -/
structure HostState where
  todo     : List HostOp
  inFlight : Bool
  failure  : Option (BitVec 3)
  deriving DecidableEq, Repr

/-- A host about to run a program. -/
def HostState.load (ops : List HostOp) : HostState := { todo := ops, inFlight := false, failure := none }

/-- One tick of the host, which sees the outputs of this tick (R101): it waits for `cmd_ready`; it abandons the program and issues STOP after a
failed command (R213); else it presents the next word for one tick, or lets one tick of a delay go by. -/
def HostState.act (h : HostState) (o : Outputs) : Option CmdWord × HostState :=
  if !o.cmdReady then (none, h)
  else if h.inFlight && o.err != 0#3 then (some (encode .stop), { todo := [], inFlight := true, failure := some o.err })
  else match h.todo with
    | [] => (none, { h with inFlight := false })
    | .cmd i :: rest => (some (encode i), { h with todo := rest, inFlight := true })
    | .pause :: rest => (none, { h with todo := rest, inFlight := false })

/-- The state with the host's word, or none, on the command port of this tick; the other inputs stay. -/
def State.offered (s : State) (w : Option CmdWord) : State :=
  { s with inputs := { s.input with cmdValid := w.isSome, cmd := w.getD s.input.cmd } :: s.inputs.tail }

/-- One tick of host and block together. -/
def coTick (h : HostState) (s : State) : Option (HostState × State) :=
  match step (s.offered (h.act s.outputs).1) with
  | .next t => some ((h.act s.outputs).2, t)
  | .fault _ => none
  | .refused _ => none

/-- `n` ticks of host and block together. -/
def coRun : Nat → HostState → State → Option (HostState × State)
  | 0, h, s => some (h, s)
  | n + 1, h, s =>
    match coTick h s with
    | some (h', s') => coRun n h' s'
    | none => none

/-- The block's states after each of `n` ticks of host and block together. -/
def coStates : Nat → HostState → State → List State
  | 0, _, _ => []
  | n + 1, h, s =>
    match coTick h s with
    | some (h', s') => s' :: coStates n h' s'
    | none => []

end Sys2Proof.Machine
end

