-- ==== Sys2Proof/Machine/Run.lean ====
section
/-! DEFINITION. Runs of the machine, what an observer of the lines sees of them (00_scope.md R15), and the environment contracts the spec
names: the timing primitive's (60_exceptions.md R257), the bench levels (20_memory.md R66) and a plan of a sensor exchange (41_sensor_engine.md R181). -/

namespace Sys2Proof.Machine

/-- `n` ticks. -/
abbrev run (n : Nat) (s : State) : Result := Host.Core.run Sys2Proof.core n s

/-- The states after each of `n` ticks. -/
def statesAfter : Nat → State → List State
  | 0, _ => []
  | n + 1, s =>
    match step s with
    | .next t => t :: statesAfter n t
    | .fault _ => []
    | .refused _ => []

/-- `(SCL_OUT, SDA_OUT)`. -/
def State.latches (s : State) : Bool × Bool := (s.sclOut, s.sdaOut)

/-- The bus trace of `n` ticks (R15). -/
def busTrace (n : Nat) (s : State) : List (Bool × Bool) := (statesAfter n s).map State.latches

/-- The data-latch values at the rises of the clock latch in a trace, after the clock level `c` (40_bus_master.md R133). -/
def dataAtRises : Bool → List (Bool × Bool) → List Bool
  | _, [] => []
  | c, (c', d') :: rest => if !c && c' then d' :: dataAtRises c' rest else dataAtRises c' rest

/-- The trace of WRITE_BYTE's latch writes for a list of bits, after the data level `d`: clock low, data, clock high for each (R133). -/
def writeByteTrace : Bool → List Bool → List (Bool × Bool)
  | _, [] => []
  | d, b :: rest => (false, d) :: (false, b) :: (true, b) :: writeByteTrace b rest

/-- A trace with repeated consecutive entries removed: two traces are stutter-equivalent when these are equal (R15). -/
def unstutter (trace : List (Bool × Bool)) : List (Bool × Bool) := trace.destutter (· ≠ ·)

/-- `rst` is 0 on the next `n` ticks. -/
abbrev NoReset (n : Nat) (s : State) : Prop := ∀ k < n, (s.inputAt k).rst = false

/-- `dly_req` on the `k`-th tick from now. -/
def requestAt (s : State) (k : Nat) : Bool :=
  match run k s with
  | .next t => t.dlyReq
  | .fault _ => false
  | .refused _ => false

/-- `dly_sel` on the `k`-th tick from now. -/
def selectAt (s : State) (k : Nat) : Bool :=
  match run k s with
  | .next t => t.dlySel
  | .fault _ => false
  | .refused _ => false

/-- The timing primitive's contract over the next `horizon` ticks (R257): a request that rises on tick `q` is answered on tick `q + N_s` and
not before; outside a request `dly_done` is 0. -/
abbrev PrimitiveObeys (tTick horizon : Nat) (s : State) : Prop :=
  (∀ q < horizon, requestAt s q = false → (s.inputAt q).dlyDone = false) ∧
  (∀ q < horizon, requestAt s q = false → requestAt s (q + 1) = true →
    (∀ j < Config.delayTicks tTick (delayDuration (selectAt s (q + 1))), q + 1 + j < horizon → (s.inputAt (q + 1 + j)).dlyDone = false) ∧
    (q + 1 + Config.delayTicks tTick (delayDuration (selectAt s (q + 1))) < horizon →
      (s.inputAt (q + 1 + Config.delayTicks tTick (delayDuration (selectAt s (q + 1))))).dlyDone = true))

/-- The bench reading of the data line (R66); PRESUMED (log entry 7): an electrical model from general knowledge. No rule of the block uses it. -/
def wiredSda (s : State) (peerPullsLow : Bool) : Bool := s.sdaOut && !peerPullsLow

/-- The bench reading of the sensor line (R66); PRESUMED (log entry 7). -/
def wiredDq (s : State) (sensorPullsLow : Bool) : Bool := !s.dqOe && !sensorPullsLow

/-- What one tick of a sensor exchange needs of its inputs. -/
inductive Need where
  | anything
  | delayHolds
  | delayEnds
  | dq (level : Bool)
  deriving DecidableEq, Repr

/-- An input record meets a need. -/
def Need.metBy : Need → Input → Bool
  | .anything, _ => true
  | .delayHolds, i => !i.dlyDone
  | .delayEnds, i => i.dlyDone
  | .dq b, i => i.dqI == b

/-- The coming ticks meet a list of needs, one a tick, and none has a reset. -/
def meets : List Need → State → Bool
  | [], _ => true
  | n :: ns, s => n.metBy s.input && !s.input.rst && meets ns s.nextTick

/-- One bit of an exchange: unsuccessful polls of phase 6, ticks phase 7 waits, the sampled level, unsuccessful polls of phase 9. -/
structure BitPlan where
  lowPolls   : Nat
  delayWaits : Nat
  bit        : Bool
  highPolls  : Nat
  deriving DecidableEq, Repr

/-- The ticks of one bit (R169 to R172). -/
def BitPlan.needs (b : BitPlan) : List Need :=
  List.replicate b.lowPolls (Need.dq false) ++ [Need.dq true] ++ List.replicate b.delayWaits Need.delayHolds ++ [Need.delayEnds] ++ [Need.dq b.bit] ++
    List.replicate b.highPolls (Need.dq true) ++ [Need.dq false]

/-- How many ticks one bit takes (70_reset_and_hazards.md R301). -/
def BitPlan.ticks (b : BitPlan) : Nat := (b.lowPolls + 1) + (b.delayWaits + 1) + 1 + (b.highPolls + 1)

/-- A whole exchange: the ticks the request delay waits, the unsuccessful polls of phases 3, 4, 5, and the bits. -/
structure ReadPlan where
  requestWaits  : Nat
  answerPolls   : Nat
  responsePolls : Nat
  readyPolls    : Nat
  bits          : List BitPlan
  deriving DecidableEq, Repr

/-- The ticks of an exchange from the acceptance tick to Done (R162 to R173). -/
def ReadPlan.needs (p : ReadPlan) : List Need :=
  [Need.anything, Need.anything] ++ List.replicate p.requestWaits Need.delayHolds ++ [Need.delayEnds, Need.anything] ++
    List.replicate p.answerPolls (Need.dq true) ++ [Need.dq false] ++ List.replicate p.responsePolls (Need.dq false) ++ [Need.dq true] ++
    List.replicate p.readyPolls (Need.dq true) ++ [Need.dq false] ++ p.bits.flatMap BitPlan.needs ++ [Need.anything]

/-- The tick on which `BUSY` is cleared, the acceptance tick being tick 0 (R301). -/
def ReadPlan.lastTick (p : ReadPlan) : Nat :=
  1 + (p.requestWaits + 1) + 1 + (p.answerPolls + 1) + (p.responsePolls + 1) + (p.readyPolls + 1) + (p.bits.map BitPlan.ticks).sum + 1

/-- `n` unsuccessful polls of one phase stay below a limit (20_memory.md R67). -/
def belowLimit (limit : Option Nat) (n : Nat) : Bool :=
  match limit with
  | none => true
  | some m => decide (n < m)

/-- No wait of the plan reaches the limit. -/
def ReadPlan.inTime (p : ReadPlan) (limit : Option Nat) : Bool :=
  belowLimit limit p.answerPolls && belowLimit limit p.responsePolls && belowLimit limit p.readyPolls &&
    p.bits.all fun b => belowLimit limit b.lowPolls && belowLimit limit b.highPolls

/-- The samples phase 8 of SENSOR_READ takes in the next `n` ticks, in order (R171). -/
def samplesOver : Nat → State → List Bool
  | 0, _ => []
  | n + 1, s =>
    (if s.busy && s.opr == 0x8#4 && s.phase == 8#4 then [s.input.dqI] else []) ++
      match step s with
      | .next t => samplesOver n t
      | .fault _ => []
      | .refused _ => []

end Sys2Proof.Machine
end

