-- ==== Sys2Proof/WellFormed.lean ====
section
/-! DEFINITION. Which commands and which parameter settings are well formed. -/

namespace Sys2Proof

/-- Every command is well formed: `ARG` is a byte by its type, "any value 0x00 to 0xFF" (40_bus_master.md R127), and the other four
have no operand (R91). -/
def Instr.wf : Instr → Bool
  | .start => true
  | .stop => true
  | .writeByte _ => true
  | .waitAck => true
  | .sensorRead => true

/-- A timeout is `none` or at least 1, and then below `2^w` (00_scope.md R10). -/
def timeoutFits (w : Nat) : Option Nat → Bool
  | none => true
  | some n => decide (1 ≤ n) && decide (n < 2 ^ w)

/-- The two conditions R10 puts on the parameters. -/
def Params.wf (p : Params) : Bool :=
  timeoutFits p.tocntW p.ackTimeout && timeoutFits p.tocntW p.sensorTimeout

/-- What the document says of the two display delays: the short one is shorter (42_host_sequences.md R212); and LCD_INIT has
five commands (R209). -/
def HostParams.wf (p : HostParams) : Bool :=
  decide (p.tEnShort < p.tEnLong) && decide (p.initBytes.length = 5)

end Sys2Proof
end

