-- ==== Sys2Proof/Safety.lean ====
section
/-! DEFINITION. The invariants of 10_state.md R39, and the line invariants of 20_memory.md R76 and R78, in the terms statements use. -/

namespace Sys2Proof.Machine

/-- The `(OPR, PHASE)` pairs the micro-programs name (R29, R39(c)). -/
def phaseNamed (op : OpField) (p : BitVec 4) : Bool :=
  if op = 0x1#4 then decide (p ≤ 3#4)
  else if op = 0x2#4 then decide (p ≤ 3#4)
  else if op = 0x3#4 then decide (p ≤ 2#4)
  else if op = 0x4#4 then decide (p ≤ 2#4)
  else if op = 0x8#4 then decide (p ≤ 10#4)
  else false

/-- A phase that polls the sensor line (41_sensor_engine.md R166 to R169, R172). -/
def sensorPolls (p : BitVec 4) : Bool := p == 3#4 || p == 4#4 || p == 5#4 || p == 6#4 || p == 9#4

/-- The limit of the wait the sequencer is in, `none` when it is in no wait or in an unbounded one (20_memory.md R67). -/
def State.waitLimit (s : State) : Option Nat :=
  if s.busy && s.opr == 0x4#4 && s.phase == 2#4 then s.cfg.ackTimeout
  else if s.busy && s.opr == 0x8#4 && sensorPolls s.phase then s.cfg.sensorTimeout
  else none

/-- `TOCNT` is below the limit of the wait it counts, and 0 elsewhere (R36, R41(c)). -/
def State.countInRange (s : State) : Bool :=
  match s.waitLimit with
  | none => s.tocnt == 0
  | some n => decide (s.tocnt < n)

/-- R39(a) to (f), with the range of `OPR` and `BITCNT` in every state (R28, R30) and the condition R10 puts on the parameters. Part (d) is
stated as what one state shows of it (log entry 10). -/
structure State.SequencerInv (s : State) : Prop where
  cfg_wf      : s.cfg.wf = true
  idle        : s.busy = false → s.phase = 0#4 ∧ s.tocnt = 0
  dqOe_iff    : s.dqOe = true ↔ s.busy = true ∧ s.opr = 0x8#4 ∧ (s.phase = 1#4 ∨ s.phase = 2#4)
  named       : s.busy = true → phaseNamed s.opr s.phase = true
  rvalid_done : s.rvalid = true → ¬(s.busy = true ∧ s.opr = 0x8#4)
  tx_count    : s.busy = true → s.opr = 0x3#4 → 1#6 ≤ s.bitcnt ∧ s.bitcnt ≤ 8#6
  rx_count    : s.busy = true → s.opr = 0x8#4 → s.bitcnt = 40#6 → s.phase = 9#4 ∨ s.phase = 10#4
  bitcnt_le   : s.bitcnt ≤ 40#6
  busy_err    : s.busy = true → s.err = .none
  opr_legal   : s.opr = 0x0#4 ∨ s.opr = 0x1#4 ∨ s.opr = 0x2#4 ∨ s.opr = 0x3#4 ∨ s.opr = 0x4#4 ∨ s.opr = 0x8#4
  count       : s.countInRange = true

/-- The shift registers in progress: the low places of `TXSH` already shifted are 0 (R31, 40_bus_master.md R132), and `RXSH` holds no more than the
`BITCNT` bits taken, so the bits a shift loses are zeros (R41(b)); before the first bit `BITCNT` is 0, at Done it is 40. -/
structure State.ShiftInv (s : State) : Prop where
  tx_low   : s.busy = true → s.opr = 0x3#4 → s.txsh.toNat % 2 ^ (8 - s.bitcnt.toNat) = 0
  rx_high  : s.busy = true → s.opr = 0x8#4 → s.rxsh.toNat < 2 ^ s.bitcnt.toNat
  rx_first : s.busy = true → s.opr = 0x8#4 → s.phase ≤ 5#4 → s.bitcnt = 0#6
  rx_done  : s.busy = true → s.opr = 0x8#4 → s.phase = 10#4 → s.bitcnt = 40#6

/-- The latches in progress: START's marker falls and STOP's rises with the clock high (40_bus_master.md R122, R125), WRITE_BYTE writes data with the clock
low (R76), WAIT_ACK polls with the clock high and the data line released (R78). -/
structure State.LineInv (s : State) : Prop where
  start_data   : s.busy = true → s.opr = 0x1#4 → s.phase = 1#4 → s.sdaOut = true
  start_marker : s.busy = true → s.opr = 0x1#4 → s.phase = 2#4 → s.sclOut = true ∧ s.sdaOut = true
  start_end    : s.busy = true → s.opr = 0x1#4 → s.phase = 3#4 → s.sclOut = true ∧ s.sdaOut = false
  stop_clock   : s.busy = true → s.opr = 0x2#4 → s.phase = 1#4 → s.sclOut = false
  stop_data    : s.busy = true → s.opr = 0x2#4 → s.phase = 2#4 → s.sclOut = false ∧ s.sdaOut = false
  stop_marker  : s.busy = true → s.opr = 0x2#4 → s.phase = 3#4 → s.sclOut = true ∧ s.sdaOut = false
  write_low    : s.busy = true → s.opr = 0x3#4 → (s.phase = 1#4 ∨ s.phase = 2#4) → s.sclOut = false
  ack_release  : s.busy = true → s.opr = 0x4#4 → s.phase = 1#4 → s.sdaOut = true
  ack_poll     : s.busy = true → s.opr = 0x4#4 → s.phase = 2#4 → s.sclOut = true ∧ s.sdaOut = true

/-- The invariant of the machine. -/
structure State.Inv (s : State) : Prop where
  sequencer : s.SequencerInv
  shift     : s.ShiftInv
  line      : s.LineInv

end Sys2Proof.Machine
end

