-- ==== Sys2Proof/Certificates/Slice0/Obligations.lean ====
section
/-! DEFINITION. The statements for the provers. `exec i s` is one tick, without reset, on which the host presents the word of `i`; each result is
the whole next state, so what is not named in it is unchanged. `s.skipTicks n` is `s` after `n` ticks that change no element. -/

open Sys2Proof Sys2Proof.Machine

/-! ### Encoding -/

/-- Words written out from the table of R92 (30_encoding.md R90 to R93). -/
def Obligations.SpecWordsDecode : Prop :=
  decode 0x100#12 = .ok .start ∧ decode 0x1AB#12 = .ok .start ∧ decode 0x200#12 = .ok .stop ∧ decode 0x34E#12 = .ok (.writeByte 0x4E#8) ∧
  decode 0x400#12 = .ok .waitAck ∧ decode 0x800#12 = .ok .sensorRead ∧ decode 0x000#12 = .error (.illegalOp 0x0#4) ∧
  decode 0x9FF#12 = .error (.illegalOp 0x9#4)

/-- Decoding an encoded command gives it back; encoding a decoded word gives the word back, up to the ARG that only WRITE_BYTE reads
(R90 to R92, R101). -/
def Obligations.DecodeEncodeAgree : Prop :=
  (∀ i : Instr, i.wf = true → decode (encode i) = .ok i) ∧
  (∀ (w : CmdWord) (i : Instr), decode w = .ok i →
    i.wf = true ∧ opOf (encode i) = opOf w ∧ (opOf w = 0x3#4 → encode i = w) ∧ (opOf w ≠ 0x3#4 → argOf (encode i) = 0x00#8))

/-- A word is a command exactly when its OP is one of the five, and is rejected with its OP otherwise (R93). -/
def Obligations.DecoderAcceptsFiveOpcodes : Prop :=
  ∀ w : CmdWord,
    ((∃ i, decode w = .ok i) ↔ opOf w = 0x1#4 ∨ opOf w = 0x2#4 ∨ opOf w = 0x3#4 ∨ opOf w = 0x4#4 ∨ opOf w = 0x8#4) ∧
    ((¬∃ i, decode w = .ok i) → decode w = .error (.illegalOp (opOf w)))

/-- ARG is WRITE_BYTE's operand as it stands and is ignored by every other OP (R91). -/
def Obligations.OnlyWriteByteReadsArg : Prop :=
  (∀ (op : OpField) (a b : Byte), op ≠ 0x3#4 → decode (mkWord op a) = decode (mkWord op b)) ∧
  (∀ a : Byte, decode (mkWord 0x3#4 a) = .ok (.writeByte a))

/-! ### The step -/

/-- A tick on which a well-formed command's word is presented, without reset, is `exec` of that command, and the tick's input record is
used up (R98). -/
def Obligations.StepRunsDecodedCommand : Prop :=
  ∀ (s : State) (i : Instr), s.input.rst = false → s.input.cmdValid = true → decode s.input.cmd = .ok i → i.wf = true →
    (∀ t, exec i s = .next t → step s = .next t.nextTick) ∧ (∀ r, exec i s = .refused r → step s = .refused r)

/-- While the block is busy the command port plays no part: whatever is on it, the tick is the same, and every command presented means the same
(30_encoding.md R96, 20_memory.md R80). -/
def Obligations.BusyBlockIgnoresCommandPort : Prop :=
  ∀ s : State, s.busy = true →
    (∀ (v : Bool) (w : CmdWord), step { s with inputs := { s.input with cmdValid := v, cmd := w } :: s.inputs.tail } = step s) ∧
    (∀ i j : Instr, exec i s = exec j s) ∧
    (s.input.rst = false → ∀ (i : Instr) (t : State), exec i s = .next t → step s = .next t.nextTick)

/-- An idle tick with no word presented changes nothing (R94). -/
def Obligations.IdleTickChangesNothing : Prop :=
  ∀ s : State, s.busy = false → s.input.rst = false → s.input.cmdValid = false → step s = .next s.nextTick

/-- Illegal words presented on `n + 1` ticks in a row to an idle block set ERR to 4 and change nothing else (R97, R93). -/
def Obligations.IllegalWordsSetErrOnly : Prop :=
  ∀ (s : State) (n : Nat), s.busy = false → NoReset (n + 1) s →
    (∀ k ≤ n, (s.inputAt k).cmdValid = true ∧ ∃ e, decode (s.inputAt k).cmd = .error e) →
    run (n + 1) s = .next (({ s with err := .illegalCommand } : State).skipTicks (n + 1))

/-- A tick with `rst = 1` gives the reset state whatever the state and the other inputs are, and a command presented on the next tick, without
reset, is accepted (70_reset_and_hazards.md R280). -/
def Obligations.ResetTickFromEveryState : Prop :=
  ∀ s : State, s.input.rst = true →
    step s = .next { sclOut := true, sdaOut := true, dqOe := false, busy := false, opr := 0x0#4, phase := 0#4, bitcnt := 0#6, txsh := 0x00#8,
                     rxsh := 0#40, rvalid := false, err := .none, tocnt := 0, cfg := s.cfg, inputs := s.inputs.tail, tick := s.tick + 1 } ∧
    ∀ i : Instr, (s.inputAt 1).rst = false → (s.inputAt 1).cmdValid = true → decode (s.inputAt 1).cmd = .ok i →
      ∃ u, run 2 s = .next u ∧ u.busy = true ∧ u.opr = i.op ∧ u.phase = 0#4

/-- The reset value of each element and of each output port (10_state.md R38). -/
def Obligations.ResetValuesOfElementsAndPorts : Prop :=
  (State.reset.sclOut = true ∧ State.reset.sdaOut = true ∧ State.reset.dqOe = false ∧ State.reset.busy = false ∧ State.reset.opr = 0x0#4 ∧
    State.reset.phase = 0#4 ∧ State.reset.bitcnt = 0#6 ∧ State.reset.txsh = 0x00#8 ∧ State.reset.rxsh = 0#40 ∧ State.reset.rvalid = false ∧
    State.reset.err = .none ∧ State.reset.tocnt = 0) ∧
  State.reset.outputs = { cmdReady := true, busy := false, err := 0#3, rvalid := false, chkok := false, rdata := 0#40, sclO := true, sdaO := true,
                          dqOe := false, dqO := false, dlyReq := false, dlySel := false }

/-- The word placed for the host runs as the very next tick (log entry 3, the model's own: the spec has no loader). -/
def Obligations.PlacedWordRunsNext : Prop :=
  ∀ (s : State) (nbits w : Nat) (i : Instr), decodeTableWord nbits w = some i →
    ∃ t, exec i (s.withFetchWord nbits w) = .next t ∧ step (s.withFetchWord nbits w) = .next t.nextTick ∧
      t.busy = true ∧ t.opr = i.op ∧ t.phase = 0#4 ∧ t.err = .none

/-! ### Acceptance and the micro-programs, one tick each -/

/-- What the acceptance of each command does (30_encoding.md R95, 40_bus_master.md R128, 41_sensor_engine.md R162). -/
def Obligations.AcceptanceOfEachCommand : Prop :=
  ∀ s : State, s.busy = false →
    exec .start s = .next { s with busy := true, opr := 0x1#4, phase := 0#4, tocnt := 0, err := .none } ∧
    exec .stop s = .next { s with busy := true, opr := 0x2#4, phase := 0#4, tocnt := 0, err := .none } ∧
    (∀ arg, exec (.writeByte arg) s =
      .next { s with busy := true, opr := 0x3#4, phase := 0#4, tocnt := 0, err := .none, txsh := arg, bitcnt := 8#6 }) ∧
    exec .waitAck s = .next { s with busy := true, opr := 0x4#4, phase := 0#4, tocnt := 0, err := .none } ∧
    exec .sensorRead s = .next { s with busy := true, opr := 0x8#4, phase := 0#4, tocnt := 0, err := .none, rxsh := 0#40, rvalid := false, bitcnt := 0#6 }

/-- The four phases of START (R122). -/
def Obligations.StartPhaseByPhase : Prop :=
  ∀ s : State, s.busy = true → s.opr = 0x1#4 → s.bitcnt ≤ 40#6 →
    (s.phase = 0#4 → exec .start s = .next { s with sdaOut := true, phase := 1#4, tocnt := 0 }) ∧
    (s.phase = 1#4 → exec .start s = .next { s with sclOut := true, phase := 2#4, tocnt := 0 }) ∧
    (s.phase = 2#4 → exec .start s = .next { s with sdaOut := false, phase := 3#4, tocnt := 0 }) ∧
    (s.phase = 3#4 → exec .start s = .next { s with sclOut := false, busy := false, phase := 0#4, tocnt := 0 })

/-- The four phases of STOP (R125). -/
def Obligations.StopPhaseByPhase : Prop :=
  ∀ s : State, s.busy = true → s.opr = 0x2#4 → s.bitcnt ≤ 40#6 →
    (s.phase = 0#4 → exec .stop s = .next { s with sclOut := false, phase := 1#4, tocnt := 0 }) ∧
    (s.phase = 1#4 → exec .stop s = .next { s with sdaOut := false, phase := 2#4, tocnt := 0 }) ∧
    (s.phase = 2#4 → exec .stop s = .next { s with sclOut := true, phase := 3#4, tocnt := 0 }) ∧
    (s.phase = 3#4 → exec .stop s = .next { s with sdaOut := true, busy := false, phase := 0#4, tocnt := 0 })

/-- The three phases of WRITE_BYTE, whatever word is presented meanwhile (R130, R131, R132). -/
def Obligations.WriteBytePhaseByPhase : Prop :=
  ∀ (s : State) (arg : Byte), s.busy = true → s.opr = 0x3#4 → s.bitcnt ≤ 40#6 →
    (s.phase = 0#4 → exec (.writeByte arg) s = .next { s with sclOut := false, phase := 1#4, tocnt := 0 }) ∧
    (s.phase = 1#4 → exec (.writeByte arg) s = .next { s with sdaOut := s.txsh.getLsbD 7, phase := 2#4, tocnt := 0 }) ∧
    (s.phase = 2#4 → s.bitcnt ≠ 1#6 → exec (.writeByte arg) s =
      .next { s with sclOut := true, txsh := s.txsh <<< 1, bitcnt := s.bitcnt - 1#6, phase := 0#4, tocnt := 0 }) ∧
    (s.phase = 2#4 → s.bitcnt = 1#6 → exec (.writeByte arg) s =
      .next { s with sclOut := true, txsh := s.txsh <<< 1, bitcnt := 0#6, busy := false, phase := 0#4, tocnt := 0 })

/-- The three phases of WAIT_ACK, the third with each of its four outcomes (R140, R141, R142). -/
def Obligations.WaitAckPhaseByPhase : Prop :=
  ∀ s : State, s.busy = true → s.opr = 0x4#4 → s.bitcnt ≤ 40#6 →
    (s.phase = 0#4 → exec .waitAck s = .next { s with sdaOut := true, phase := 1#4, tocnt := 0 }) ∧
    (s.phase = 1#4 → exec .waitAck s = .next { s with sclOut := true, phase := 2#4, tocnt := 0 }) ∧
    (s.phase = 2#4 → s.input.sdaI = false → exec .waitAck s = .next { s with busy := false, phase := 0#4, tocnt := 0 }) ∧
    (s.phase = 2#4 → s.input.sdaI = true → s.cfg.ackTimeout = none → exec .waitAck s = .next s) ∧
    (∀ n, s.phase = 2#4 → s.input.sdaI = true → s.cfg.ackTimeout = some n → n ≤ s.tocnt + 1 →
      exec .waitAck s = .next { s with err := .busAckTimeout, busy := false, phase := 0#4, tocnt := 0 }) ∧
    (∀ n, s.phase = 2#4 → s.input.sdaI = true → s.cfg.ackTimeout = some n → s.tocnt + 1 < n → n < 2 ^ s.cfg.tocntW →
      exec .waitAck s = .next { s with tocnt := s.tocnt + 1 })

/-- Requesting, phases 0 to 2 of SENSOR_READ, with the delay request on the ports (41_sensor_engine.md R163, R164, R165). -/
def Obligations.SensorRequestPhaseByPhase : Prop :=
  ∀ s : State, s.busy = true → s.opr = 0x8#4 → s.bitcnt ≤ 40#6 →
    (s.phase = 0#4 → exec .sensorRead s = .next { s with dqOe := true, phase := 1#4, tocnt := 0 }) ∧
    (s.phase = 1#4 → s.outputs.dlyReq = true ∧ s.outputs.dlySel = false) ∧
    (s.phase = 1#4 → s.input.dlyDone = false → exec .sensorRead s = .next s) ∧
    (s.phase = 1#4 → s.input.dlyDone = true → exec .sensorRead s = .next { s with phase := 2#4, tocnt := 0 }) ∧
    (s.phase = 2#4 → exec .sensorRead s = .next { s with dqOe := false, phase := 3#4, tocnt := 0 })

/-- AwaitingResponse, phases 3 to 5: phase 4 waits while the line is low, phases 3 and 5 while it is high (R166, R167, R168, R242). -/
def Obligations.SensorHandshakePhaseByPhase : Prop :=
  ∀ (s : State) (p : BitVec 4), s.busy = true → s.opr = 0x8#4 → s.bitcnt ≤ 40#6 → (p = 3#4 ∨ p = 4#4 ∨ p = 5#4) → s.phase = p →
    (s.input.dqI = (p == 4#4) → exec .sensorRead s = .next { s with phase := p + 1#4, tocnt := 0 }) ∧
    (s.input.dqI ≠ (p == 4#4) → s.cfg.sensorTimeout = none → exec .sensorRead s = .next s) ∧
    (∀ n, s.input.dqI ≠ (p == 4#4) → s.cfg.sensorTimeout = some n → n ≤ s.tocnt + 1 →
      exec .sensorRead s = .next { s with err := .sensorHandshakeTimeout, busy := false, phase := 0#4, tocnt := 0 }) ∧
    (∀ n, s.input.dqI ≠ (p == 4#4) → s.cfg.sensorTimeout = some n → s.tocnt + 1 < n → n < 2 ^ s.cfg.tocntW →
      exec .sensorRead s = .next { s with tocnt := s.tocnt + 1 })

/-- ReceivingBit, phases 6 to 9 (R169, R170, R171, R172, R244). -/
def Obligations.SensorBitPhaseByPhase : Prop :=
  ∀ s : State, s.busy = true → s.opr = 0x8#4 → s.bitcnt ≤ 40#6 →
    (s.phase = 6#4 → s.input.dqI = true → exec .sensorRead s = .next { s with phase := 7#4, tocnt := 0 }) ∧
    (s.phase = 7#4 → s.outputs.dlyReq = true ∧ s.outputs.dlySel = true) ∧
    (s.phase = 7#4 → s.input.dlyDone = false → exec .sensorRead s = .next s) ∧
    (s.phase = 7#4 → s.input.dlyDone = true → exec .sensorRead s = .next { s with phase := 8#4, tocnt := 0 }) ∧
    (s.phase = 8#4 → ∃ r : BitVec 40, exec .sensorRead s = .next { s with rxsh := r, bitcnt := s.bitcnt + 1#6, phase := 9#4, tocnt := 0 } ∧
      r.toNat = (2 * s.rxsh.toNat + s.input.dqI.toNat) % 2 ^ 40) ∧
    (s.phase = 9#4 → s.input.dqI = false → s.bitcnt ≠ 40#6 → exec .sensorRead s = .next { s with phase := 6#4, tocnt := 0 }) ∧
    (s.phase = 9#4 → s.input.dqI = false → s.bitcnt = 40#6 → exec .sensorRead s = .next { s with phase := 10#4, tocnt := 0 }) ∧
    ((s.phase = 6#4 ∧ s.input.dqI = false) ∨ (s.phase = 9#4 ∧ s.input.dqI = true) →
      (s.cfg.sensorTimeout = none → exec .sensorRead s = .next s) ∧
      (∀ n, s.cfg.sensorTimeout = some n → n ≤ s.tocnt + 1 →
        exec .sensorRead s = .next { s with err := .sensorBitTimeout, busy := false, phase := 0#4, tocnt := 0 }) ∧
      (∀ n, s.cfg.sensorTimeout = some n → s.tocnt + 1 < n → n < 2 ^ s.cfg.tocntW →
        exec .sensorRead s = .next { s with tocnt := s.tocnt + 1 }))

/-- Done, phase 10 of SENSOR_READ (R173). -/
def Obligations.SensorDonePhase : Prop :=
  ∀ s : State, s.busy = true → s.opr = 0x8#4 → s.bitcnt ≤ 40#6 → s.phase = 10#4 →
    exec .sensorRead s = .next { s with rvalid := true, busy := false, phase := 0#4, tocnt := 0 }

/-- The states R98 and U18 tell a total step to refuse are refused, and no other busy state without reset is. -/
def Obligations.OnlyUnreachablePhasesRefused : Prop :=
  ∀ s : State, s.busy = true → s.input.rst = false →
    ((∃ r, step s = .refused r) ↔ phaseNamed s.opr s.phase = false ∨ 40#6 < s.bitcnt)

/-! ### Whole commands, from the tick their word is accepted -/

/-- START completes 4 ticks after its acceptance tick with the trace of R122 (R121, R123). -/
def Obligations.StartRunsToCompletion : Prop :=
  ∀ s : State, s.busy = false → s.bitcnt ≤ 40#6 → NoReset 5 s →
    ∃ t, exec .start s = .next t ∧ t.latches = s.latches ∧
      busTrace 4 t.nextTick = [(s.sclOut, true), (true, true), (true, false), (false, false)] ∧
      run 4 t.nextTick = .next (({ s with sclOut := false, sdaOut := false, busy := false, opr := 0x1#4, phase := 0#4, tocnt := 0, err := .none } :
        State).skipTicks 5)

/-- STOP completes 4 ticks after its acceptance tick, from any latches, on the idle bus (R124, R125). -/
def Obligations.StopRunsToCompletion : Prop :=
  ∀ s : State, s.busy = false → s.bitcnt ≤ 40#6 → NoReset 5 s →
    ∃ t, exec .stop s = .next t ∧ t.latches = s.latches ∧
      busTrace 4 t.nextTick = [(false, s.sdaOut), (false, false), (true, false), (true, true)] ∧
      run 4 t.nextTick = .next (({ s with sclOut := true, sdaOut := true, busy := false, opr := 0x2#4, phase := 0#4, tocnt := 0, err := .none } :
        State).skipTicks 5)

/-- WRITE_BYTE completes 24 ticks after its acceptance tick: the latch writes are clock low, data, clock high for each bit from bit 7 down, and the data at
the eight rises of the clock are Ser8 of the operand (R127, R133, R301). -/
def Obligations.WriteByteRunsToCompletion : Prop :=
  ∀ (s : State) (v : Byte), s.busy = false → NoReset 25 s →
    ∃ t, exec (.writeByte v) s = .next t ∧ t.latches = s.latches ∧
      busTrace 24 t.nextTick = writeByteTrace s.sdaOut (ser8 v) ∧
      dataAtRises s.sclOut (busTrace 24 t.nextTick) = ser8 v ∧
      run 24 t.nextTick = .next (({ s with sclOut := true, sdaOut := v.getLsbD 0, busy := false, opr := 0x3#4, phase := 0#4, bitcnt := 0#6, txsh := 0x00#8, tocnt := 0, err := .none } : State).skipTicks 25)

/-- WAIT_ACK completes on its first poll that sees the line low, after `p` polls that see it high, under any limit above `p`; and what an observer of
the lines sees does not depend on `p` up to repeated entries (R137, R138, R142, R143, R251). -/
def Obligations.WaitAckRunsToCompletion : Prop :=
  ∀ (s : State) (p : Nat), s.busy = false → s.bitcnt ≤ 40#6 → s.cfg.wf = true → belowLimit s.cfg.ackTimeout p = true → NoReset (p + 4) s →
    (∀ k < p, (s.inputAt (k + 3)).sdaI = true) → (s.inputAt (p + 3)).sdaI = false →
    ∃ t, exec .waitAck s = .next t ∧ t.latches = s.latches ∧
      unstutter (busTrace (p + 3) t.nextTick) = unstutter [(s.sclOut, true), (true, true)] ∧
      run (p + 3) t.nextTick = .next (({ s with sclOut := true, sdaOut := true, busy := false, opr := 0x4#4, phase := 0#4, tocnt := 0, err := .none } : State).skipTicks (p + 4))

/-- With a limit of `n` polls and the line high on all of them WAIT_ACK fails with code 1 on the `n`-th and changes nothing else (R241, R246, R260
Scenario D). -/
def Obligations.WaitAckTimesOut : Prop :=
  ∀ (s : State) (n : Nat), s.busy = false → s.bitcnt ≤ 40#6 → s.cfg.ackTimeout = some n → 1 ≤ n → n < 2 ^ s.cfg.tocntW → NoReset (n + 3) s →
    (∀ k < n, (s.inputAt (k + 3)).sdaI = true) →
    ∃ t, exec .waitAck s = .next t ∧
      (∀ k < n + 2, ∃ u, run k t.nextTick = .next u ∧ u.busy = true) ∧
      run (n + 2) t.nextTick = .next (({ s with sclOut := true, sdaOut := true, busy := false, opr := 0x4#4, phase := 0#4, tocnt := 0, err := .busAckTimeout } : State).skipTicks (n + 3))

/-- With no limit and the line high WAIT_ACK polls for ever: busy, in phase 2, the latches high (R248, R145). -/
def Obligations.WaitAckHangsWithoutLimit : Prop :=
  ∀ (s : State) (n : Nat), s.busy = false → s.bitcnt ≤ 40#6 → s.cfg.ackTimeout = none → NoReset (n + 3) s →
    (∀ k < n, (s.inputAt (k + 3)).sdaI = true) →
    ∃ t, exec .waitAck s = .next t ∧
      run (n + 2) t.nextTick = .next (({ s with sclOut := true, sdaOut := true, busy := true, opr := 0x4#4, phase := 2#4, tocnt := 0, err := .none } : State).skipTicks (n + 3))

/-- SENSOR_READ completes for every exchange that answers all its waits in time, on the tick R301 counts, and leaves the forty samples packed most
significant first (R161, R174, R301). -/
def Obligations.SensorReadRunsToCompletion : Prop :=
  ∀ (s : State) (p : ReadPlan), s.busy = false → s.dqOe = false → s.cfg.wf = true → p.bits.length = 40 → p.inTime s.cfg.sensorTimeout = true →
    meets p.needs s = true →
    ∃ t, exec .sensorRead s = .next t ∧
      run p.lastTick t.nextTick = .next (({ s with busy := false, opr := 0x8#4, phase := 0#4, bitcnt := 40#6, rxsh := BitVec.ofNat 40 (pack (p.bits.map BitPlan.bit)), rvalid := true, tocnt := 0, err := .none } : State).skipTicks (p.lastTick + 1))

/-- Whatever the inputs without reset, as long as SENSOR_READ runs and when it ends, RXSH is the pack of the samples taken so far, BITCNT their number, and
the reading becomes valid only by completing with forty of them (R171, R174, R180(c), R33). -/
def Obligations.SensorReadingIsPackOfSamples : Prop :=
  ∀ (s t u : State) (n : Nat), s.busy = false → exec .sensorRead s = .next t → NoReset n t.nextTick →
    (∀ k < n, ∃ w, run k t.nextTick = .next w ∧ w.busy = true) → run n t.nextTick = .next u →
    u.rxsh = BitVec.ofNat 40 (pack (samplesOver n t.nextTick)) ∧ u.bitcnt.toNat = (samplesOver n t.nextTick).length ∧
    (u.rvalid = true → u.busy = false ∧ u.err = .none ∧ (samplesOver n t.nextTick).length = 40) ∧
    (u.busy = false → u.err = .none → u.rvalid = true) ∧ u.latches = s.latches ∧ u.txsh = s.txsh

/-- Scenario C of R260: with a limit of `n` polls and the line high after the release, SENSOR_READ fails with code 2 on the `n`-th poll of phase 3
(R242, R246). -/
def Obligations.SensorAbsentTimesOut : Prop :=
  ∀ (s : State) (n r : Nat), s.busy = false → s.dqOe = false → s.cfg.sensorTimeout = some n → 1 ≤ n → n < 2 ^ s.cfg.tocntW →
    meets ([Need.anything, Need.anything] ++ List.replicate r Need.delayHolds ++ [Need.delayEnds, Need.anything] ++ List.replicate n (Need.dq true)) s = true →
    ∃ t, exec .sensorRead s = .next t ∧
      run (r + 3 + n) t.nextTick = .next (({ s with busy := false, opr := 0x8#4, phase := 0#4, bitcnt := 0#6, rxsh := 0#40, rvalid := false, tocnt := 0, err := .sensorHandshakeTimeout } : State).skipTicks (r + 4 + n))

/-- A wait on the sensor line that is missed on every one of its `n` polls fails on the `n`-th: code 2 in phases 3 to 5, code 3 in phases 6 and 9, the
bits received so far kept (R242, R244, R246). -/
def Obligations.SensorWaitTimesOut : Prop :=
  ∀ (s : State) (n : Nat), s.busy = true → s.opr = 0x8#4 → s.bitcnt ≤ 40#6 → sensorPolls s.phase = true → s.tocnt = 0 →
    s.cfg.sensorTimeout = some n → 1 ≤ n → n < 2 ^ s.cfg.tocntW → NoReset n s →
    (∀ k < n, (s.inputAt k).dqI = !(s.phase == 4#4 || s.phase == 6#4)) →
    run n s = .next (({ s with err := if s.phase = 6#4 ∨ s.phase = 9#4 then .sensorBitTimeout else .sensorHandshakeTimeout, busy := false, phase := 0#4, tocnt := 0 } : State).skipTicks n)

/-- With no limit a wait on the sensor line that is missed hangs: nothing changes for as long as the line stays (R248, R176). -/
def Obligations.SensorWaitHangsWithoutLimit : Prop :=
  ∀ (s : State) (n : Nat), s.busy = true → s.opr = 0x8#4 → s.bitcnt ≤ 40#6 → sensorPolls s.phase = true → s.cfg.sensorTimeout = none →
    NoReset n s → (∀ k < n, (s.inputAt k).dqI = !(s.phase == 4#4 || s.phase == 6#4)) → run n s = .next (s.skipTicks n)

/-- A delay that is never answered hangs under every setting of the timeouts, with the latches held (R68, R248). -/
def Obligations.UnansweredDelayHangs : Prop :=
  ∀ (s : State) (n : Nat), s.busy = true → s.opr = 0x8#4 → s.bitcnt ≤ 40#6 → (s.phase = 1#4 ∨ s.phase = 7#4) → NoReset n s →
    (∀ k < n, (s.inputAt k).dlyDone = false) → run n s = .next (s.skipTicks n)

/-- Under the timing primitive's contract the sensor line is held low for `N_0 + 2` ticks of one SENSOR_READ, which last between `T_REQ + 2*T_TICK` and
`T_REQ + 3*T_TICK` (70_reset_and_hazards.md R300, R257). -/
def Obligations.RequestPulseIsLongEnough : Prop :=
  ∀ (s : State) (tTick : Nat), 0 < tTick → s.busy = false → s.dqOe = false → s.input.cmdValid = true → decode s.input.cmd = .ok .sensorRead →
    NoReset (Config.delayTicks tTick Config.tReq + 5) s → PrimitiveObeys tTick (Config.delayTicks tTick Config.tReq + 5) s →
    (∀ k ≤ Config.delayTicks tTick Config.tReq + 4, ∃ t, run k s = .next t ∧
      (t.dqOe = true ↔ 2 ≤ k ∧ k ≤ Config.delayTicks tTick Config.tReq + 3)) ∧
    Config.tReq + 2 * tTick ≤ (Config.delayTicks tTick Config.tReq + 2) * tTick ∧
    (Config.delayTicks tTick Config.tReq + 2) * tTick < Config.tReq + 3 * tTick

/-- Under the contract a bit is sampled `N_1 + 2` ticks after the poll that saw the line high, hence between `T_SAMPLE + 2*T_TICK` and
`T_SAMPLE + 4*T_TICK` after a rise seen at the first tick at or after it (R294, R257). -/
def Obligations.SampleOffsetIsBounded : Prop :=
  ∀ (s : State) (tTick : Nat), 0 < tTick → s.busy = true → s.opr = 0x8#4 → s.phase = 6#4 → s.bitcnt < 40#6 → s.input.dqI = true →
    NoReset (Config.delayTicks tTick Config.tSample + 3) s → PrimitiveObeys tTick (Config.delayTicks tTick Config.tSample + 3) s →
    (∃ t, run (Config.delayTicks tTick Config.tSample + 3) s = .next t ∧ t.phase = 9#4 ∧ t.bitcnt = s.bitcnt + 1#6 ∧
      t.rxsh = shiftIn s.rxsh (s.inputAt (Config.delayTicks tTick Config.tSample + 2)).dqI) ∧
    ∀ rise seen : Nat, rise ≤ seen → seen < rise + tTick →
      rise + (Config.tSample + 2 * tTick) ≤ seen + (Config.delayTicks tTick Config.tSample + 2) * tTick ∧
      seen + (Config.delayTicks tTick Config.tSample + 2) * tTick < rise + (Config.tSample + 4 * tTick)

/-! ### Invariants -/

/-- The invariant holds at reset (R39). -/
def Obligations.InvariantHoldsAtReset : Prop := State.reset.Inv

/-- Every tick keeps the invariant (R39, R41, 20_memory.md R76, R78). -/
def Obligations.EveryTickKeepsInvariant : Prop :=
  ∀ s t : State, s.Inv → step s = .next t → t.Inv

/-- From every state with the invariant, for every input sequence, the machine runs for ever: no run of it is refused or faults (R22, R98). -/
def Obligations.RunsNeverStop : Prop :=
  ∀ (s : State) (n : Nat), s.Inv → ∃ t, run n s = .next t ∧ t.Inv

/-! ### Frames and non-interference over all commands -/

/-- Without reset a tick changes at most one of the three line latches (20_memory.md R63, 70_reset_and_hazards.md R281). -/
def Obligations.OneLatchPerTick : Prop :=
  ∀ s t : State, s.input.rst = false → step s = .next t →
    (t.sclOut = s.sclOut ∧ t.sdaOut = s.sdaOut) ∨ (t.sclOut = s.sclOut ∧ t.dqOe = s.dqOe) ∨ (t.sdaOut = s.sdaOut ∧ t.dqOe = s.dqOe)

/-- Bus commands neither write DQ_OE nor look at `dq_i`; SENSOR_READ neither writes the bus latches nor looks at `sda_i` (R77). -/
def Obligations.BusAndSensorAreDisjoint : Prop :=
  ∀ s : State,
    (s.busy = false ∨ s.opr ≠ 0x8#4 →
      (∀ dq dly : Bool, step { s with inputs := { s.input with dqI := dq, dlyDone := dly } :: s.inputs.tail } = step s) ∧
      (∀ t, s.input.rst = false → step s = .next t → t.dqOe = s.dqOe)) ∧
    (s.busy = false ∨ s.opr = 0x8#4 →
      (∀ sda : Bool, step { s with inputs := { s.input with sdaI := sda } :: s.inputs.tail } = step s) ∧
      (∀ t, s.input.rst = false → step s = .next t → t.sclOut = s.sclOut ∧ t.sdaOut = s.sdaOut))

/-- Under the invariant the data line matters only in phase 2 of WAIT_ACK, and in that phase both bus latches are 1 (20_memory.md
R78, the spec's own inference). -/
def Obligations.DataLineSampledOnlyByWaitAck : Prop :=
  ∀ s : State, s.Inv →
    (∀ sda : Bool, step { s with inputs := { s.input with sdaI := sda } :: s.inputs.tail } ≠ step s →
      s.input.rst = false ∧ s.busy = true ∧ s.opr = 0x4#4 ∧ s.phase = 2#4) ∧
    (s.busy = true → s.opr = 0x4#4 → s.phase = 2#4 → s.sclOut = true ∧ s.sdaOut = true ∧
      (s.input.rst = false → step { s with inputs := { s.input with sdaI := !s.input.sdaI } :: s.inputs.tail } ≠ step s))

/-- A tick in progress that changes ERR is a failure: it is raised by the phase, the sample and the limit the code names, and it changes nothing but ERR, BUSY,
PHASE and TOCNT (60_exceptions.md R241, R242, R244, R246, R252). -/
def Obligations.FailureChangesNothingElse : Prop :=
  ∀ s t : State, s.input.rst = false → s.busy = true → step s = .next t → t.err ≠ s.err →
    t = ({ s with err := t.err, busy := false, phase := 0#4, tocnt := 0 } : State).nextTick ∧
    ((t.err = .busAckTimeout ∧ s.opr = 0x4#4 ∧ s.phase = 2#4 ∧ s.input.sdaI = true ∧ ∃ n, s.cfg.ackTimeout = some n ∧ n ≤ s.tocnt + 1) ∨
     (t.err = .sensorHandshakeTimeout ∧ s.opr = 0x8#4 ∧ ((s.phase = 3#4 ∨ s.phase = 5#4) ∧ s.input.dqI = true ∨ s.phase = 4#4 ∧ s.input.dqI = false) ∧
       ∃ n, s.cfg.sensorTimeout = some n ∧ n ≤ s.tocnt + 1) ∨
     (t.err = .sensorBitTimeout ∧ s.opr = 0x8#4 ∧ (s.phase = 6#4 ∧ s.input.dqI = false ∨ s.phase = 9#4 ∧ s.input.dqI = true) ∧
       ∃ n, s.cfg.sensorTimeout = some n ∧ n ≤ s.tocnt + 1))

/-- Who writes the reading: the acceptance of SENSOR_READ clears RXSH and RVALID, its phase 8 shifts RXSH, its phase 10 sets RVALID, and no other tick without reset
writes either (10_state.md R32, R33). -/
def Obligations.WritersOfTheReading : Prop :=
  ∀ s t : State, s.input.rst = false → step s = .next t →
    (s.busy = false → s.input.cmdValid = true → decode s.input.cmd = .ok .sensorRead → t.rxsh = 0#40 ∧ t.rvalid = false) ∧
    (s.busy = true → s.opr = 0x8#4 → s.phase = 8#4 → t.rxsh = shiftIn s.rxsh s.input.dqI ∧ t.rvalid = s.rvalid) ∧
    (s.busy = true → s.opr = 0x8#4 → s.phase = 10#4 → t.rxsh = s.rxsh ∧ t.rvalid = true) ∧
    (¬(s.busy = false ∧ s.input.cmdValid = true ∧ decode s.input.cmd = .ok .sensorRead) →
      ¬(s.busy = true ∧ s.opr = 0x8#4 ∧ (s.phase = 8#4 ∨ s.phase = 10#4)) → t.rxsh = s.rxsh ∧ t.rvalid = s.rvalid)

/-- Who writes BITCNT and TXSH: the acceptance of WRITE_BYTE and of SENSOR_READ, phase 2 of WRITE_BYTE, phase 8 of SENSOR_READ (R30, R31). -/
def Obligations.WritersOfTheBitCounters : Prop :=
  ∀ s t : State, s.input.rst = false → step s = .next t →
    (∀ v, s.busy = false → s.input.cmdValid = true → decode s.input.cmd = .ok (.writeByte v) → t.bitcnt = 8#6 ∧ t.txsh = v) ∧
    (s.busy = false → s.input.cmdValid = true → decode s.input.cmd = .ok .sensorRead → t.bitcnt = 0#6 ∧ t.txsh = s.txsh) ∧
    (s.busy = true → s.opr = 0x3#4 → s.phase = 2#4 → t.bitcnt = s.bitcnt - 1#6 ∧ t.txsh = s.txsh <<< 1) ∧
    (s.busy = true → s.opr = 0x8#4 → s.phase = 8#4 → t.bitcnt = s.bitcnt + 1#6 ∧ t.txsh = s.txsh) ∧
    (¬(s.busy = false ∧ s.input.cmdValid = true ∧ ((∃ v, decode s.input.cmd = .ok (.writeByte v)) ∨ decode s.input.cmd = .ok .sensorRead)) →
      ¬(s.busy = true ∧ s.opr = 0x3#4 ∧ s.phase = 2#4) → ¬(s.busy = true ∧ s.opr = 0x8#4 ∧ s.phase = 8#4) →
      t.bitcnt = s.bitcnt ∧ t.txsh = s.txsh)

/-- Under the invariant the owner of the sensor line changes only at the handoffs R26 names: phase 0 takes the line, phase 2 releases it, the exit of phase 3 gives
it to the sensor, and the end of the command gives it back. -/
def Obligations.OwnerChangesAtHandoffs : Prop :=
  ∀ s t : State, s.Inv → s.input.rst = false → step s = .next t → t.owner ≠ s.owner →
    s.busy = true ∧ s.opr = 0x8#4 ∧
    ((s.phase = 0#4 ∧ s.owner = .released ∧ t.owner = .heldLowByDriver) ∨
     (s.phase = 2#4 ∧ s.owner = .heldLowByDriver ∧ t.owner = .released) ∨
     (s.phase = 3#4 ∧ s.input.dqI = false ∧ s.owner = .released ∧ t.owner = .drivenBySensor) ∨
     (t.busy = false ∧ s.owner = .drivenBySensor ∧ t.owner = .released))

/-! ### The reading and the bit orders -/

/-- CHKOK is RVALID and the sum of the first four bytes mod 256 being the fifth (R34); its value at reset is in
`Obligations.ResetValuesOfElementsAndPorts`. -/
def Obligations.ChkokIsChecksumModulo256 : Prop :=
  ∀ s : State, s.chkok = true ↔
    s.rvalid = true ∧ ((s.data 0).toNat + (s.data 1).toNat + (s.data 2).toNat + (s.data 3).toNat) % 256 = (s.data 4).toNat

/-- If RXSH is the pack of forty bits then `DATA[i]` is the pack of bits `8i` to `8i + 7`, and the `k`-th bit is bit `39 - k` of RXSH (R70, R174). -/
def Obligations.DataBytesArePacksOfEight : Prop :=
  ∀ (s : State) (bits : List Bool), bits.length = 40 → s.rxsh = BitVec.ofNat 40 (pack bits) →
    (∀ i : Fin 5, s.data i = BitVec.ofNat 8 (pack ((bits.drop (8 * i.val)).take 8))) ∧
    (∀ k < 40, bits[k]? = some (s.rxsh.getLsbD (39 - k)))

/-- `Ser8` and `Pack` are inverse to each other on bytes: `Pack(Ser8(v)) = v`, and eight bits are `Ser8` of the byte they pack to (R71). -/
def Obligations.PackInvertsSer8 : Prop :=
  (∀ v : Byte, BitVec.ofNat 8 (pack (ser8 v)) = v) ∧ ∀ bits : List Bool, bits.length = 8 → ser8 (BitVec.ofNat 8 (pack bits)) = bits

/-! ### Host sequences on the block -/

/-- A display unit is twelve words and four delays (42_host_sequences.md R202, R206, R207). -/
def Obligations.LcdUnitExpansion : Prop :=
  ∀ (p : HostParams) (k : LcdKind) (v : Byte),
    hostWords (lcdUnit p k v) =
      [0x100#12, mkWord 0x3#4 p.devAddrW, 0x400#12, mkWord 0x3#4 ((v &&& 0xF0#8) ||| k.enableHigh), 0x400#12,
       mkWord 0x3#4 ((v &&& 0xF0#8) ||| k.enableLow), 0x400#12, mkWord 0x3#4 (((v <<< 4) &&& 0xF0#8) ||| k.enableHigh), 0x400#12,
       mkWord 0x3#4 (((v <<< 4) &&& 0xF0#8) ||| k.enableLow), 0x400#12, 0x200#12] ∧
    hostDelays (lcdUnit p k v) = [p.tEnShort, p.tEnLong, p.tEnShort, p.tEnLong]

/-- In every unit each nibble's two bytes differ in the enable bit only, the backlight bit is 1, bit 1 is 0, register-select is that of the kind in all four bytes, and
the byte can be read back, upper nibble first (R208, R204). -/
def Obligations.LcdUnitCarriesTheByte : Prop :=
  ∀ (k : LcdKind) (v b1 b2 b3 b4 : Byte), unitPayload k v = [b1, b2, b3, b4] →
    b1 ^^^ b2 = 0x04#8 ∧ b3 ^^^ b4 = 0x04#8 ∧ b1.getLsbD 2 = true ∧ b3.getLsbD 2 = true ∧
    (∀ b ∈ [b1, b2, b3, b4], b.getLsbD 3 = true ∧ b.getLsbD 1 = false ∧ b.getLsbD 0 = decide (k = .data)) ∧
    (b1 &&& 0xF0#8) ||| (b3 >>> 4) = v

/-- A frame run by the host of log entry 9 on an idle bus with a peer that acknowledges every poll takes `39 + 29*n` ticks for `n` payload bytes, puts the address byte and
the payload on the bus most significant bit first, and ends on an idle bus (R200, R101, R133, R301; program P1). -/
def Obligations.FrameReachesThePeer : Prop :=
  ∀ (s : State) (a : Byte) (bs : List Byte) (tTick : Nat), s.busy = false → s.bitcnt ≤ 40#6 → s.latches = (true, true) → s.cfg.wf = true →
    NoReset (39 + 29 * bs.length) s → (∀ k < 39 + 29 * bs.length, (s.inputAt k).sdaI = false) →
    ∃ h t, coRun (39 + 29 * bs.length) (.load (hostOps tTick (frame a bs))) s = some (h, t) ∧ h.todo = [] ∧ h.failure = none ∧
      t.busy = false ∧ t.err = .none ∧ t.latches = (true, true) ∧ t.dqOe = s.dqOe ∧ t.rxsh = s.rxsh ∧ t.rvalid = s.rvalid ∧
      dataAtRises true ((coStates (39 + 29 * bs.length) (.load (hostOps tTick (frame a bs))) s).map State.latches) =
        (a :: bs).flatMap ser8 ++ [false]

/-- A display unit run by the host of log entry 9 on an idle bus with a peer that acknowledges every poll takes 155 ticks plus its four delays and carries the address byte and the four
payload bytes (R202, R212, R301). -/
def Obligations.LcdUnitReachesThePeer : Prop :=
  ∀ (s : State) (p : HostParams) (k : LcdKind) (v : Byte) (tTick n : Nat), 0 < tTick → s.busy = false → s.bitcnt ≤ 40#6 → s.latches = (true, true) →
    s.cfg.wf = true → n = 155 + 2 * (Config.delayTicks tTick p.tEnShort + Config.delayTicks tTick p.tEnLong) →
    NoReset n s → (∀ j < n, (s.inputAt j).sdaI = false) →
    ∃ h t, coRun n (.load (hostOps tTick (lcdUnit p k v))) s = some (h, t) ∧ h.todo = [] ∧ h.failure = none ∧
      t.busy = false ∧ t.err = .none ∧ t.latches = (true, true) ∧
      dataAtRises true ((coStates n (.load (hostOps tTick (lcdUnit p k v))) s).map State.latches) =
        (p.devAddrW :: unitPayload k v).flatMap ser8 ++ [false]

/-- A frame to a display that never acknowledges, with a limit of `n` polls: the host of log entry 9 sees code 1, gives the frame up and returns the bus to idle by STOP, in `38 + n`
ticks (R213, R243, R260; program P4). -/
def Obligations.FrameToAbsentPeerIsAbandoned : Prop :=
  ∀ (s : State) (a : Byte) (bs : List Byte) (tTick n : Nat), s.busy = false → s.bitcnt ≤ 40#6 → s.cfg.ackTimeout = some n → 1 ≤ n →
    n < 2 ^ s.cfg.tocntW → NoReset (38 + n) s → (∀ k < 38 + n, (s.inputAt k).sdaI = true) →
    ∃ h t, coRun (38 + n) (.load (hostOps tTick (frame a bs))) s = some (h, t) ∧ h.todo = [] ∧ h.failure = some 1#3 ∧
      t.busy = false ∧ t.err = .none ∧ t.latches = (true, true)
end

