-- ==== Sys2Proof/Laws/Decode.lean ====
section
/-! SUPPORT. A command word and its two fields determine each other. -/

namespace Sys2Proof

/-- A word as a number. -/
theorem mkWord_toNat (op : OpField) (arg : Byte) : (mkWord op arg).toNat = op.toNat * 256 + arg.toNat := by
  show (op ++ arg).toNat = _
  rw [BitVec.toNat_append, ← Nat.shiftLeft_add_eq_or_of_lt arg.isLt, Nat.shiftLeft_eq]

/-- The OP field of a word built from its fields. -/
@[simp] theorem opOf_mkWord (op : OpField) (arg : Byte) : opOf (mkWord op arg) = op := by
  apply BitVec.eq_of_toNat_eq
  have := op.isLt
  have := arg.isLt
  simp [opOf, BitVec.extractLsb'_toNat, mkWord_toNat, Nat.shiftRight_eq_div_pow]
  omega

/-- The ARG field of a word built from its fields. -/
@[simp] theorem argOf_mkWord (op : OpField) (arg : Byte) : argOf (mkWord op arg) = arg := by
  apply BitVec.eq_of_toNat_eq
  have := op.isLt
  have := arg.isLt
  simp [argOf, BitVec.extractLsb'_toNat, mkWord_toNat]
  omega

/-- A word is made of its two fields. -/
theorem mkWord_opOf_argOf (w : CmdWord) : mkWord (opOf w) (argOf w) = w := by
  apply BitVec.eq_of_toNat_eq
  have := w.isLt
  simp [opOf, argOf, BitVec.extractLsb'_toNat, mkWord_toNat, Nat.shiftRight_eq_div_pow]
  omega

end Sys2Proof
end

