-- ==== Sys2Proof/Laws/State.lean ====
section
/-! SUPPORT. What each update of the state does to each field, and to the input stream: all by unfolding the update once. -/

namespace Sys2Proof.Machine

section driveScl
variable (s : State) (b : Bool)

@[simp] theorem State.driveScl_sclOut : (s.drive .scl b).sclOut = b := rfl
@[simp] theorem State.driveScl_sdaOut : (s.drive .scl b).sdaOut = s.sdaOut := rfl
@[simp] theorem State.driveScl_dqOe : (s.drive .scl b).dqOe = s.dqOe := rfl
@[simp] theorem State.driveScl_busy : (s.drive .scl b).busy = s.busy := rfl
@[simp] theorem State.driveScl_opr : (s.drive .scl b).opr = s.opr := rfl
@[simp] theorem State.driveScl_phase : (s.drive .scl b).phase = s.phase := rfl
@[simp] theorem State.driveScl_bitcnt : (s.drive .scl b).bitcnt = s.bitcnt := rfl
@[simp] theorem State.driveScl_txsh : (s.drive .scl b).txsh = s.txsh := rfl
@[simp] theorem State.driveScl_rxsh : (s.drive .scl b).rxsh = s.rxsh := rfl
@[simp] theorem State.driveScl_rvalid : (s.drive .scl b).rvalid = s.rvalid := rfl
@[simp] theorem State.driveScl_err : (s.drive .scl b).err = s.err := rfl
@[simp] theorem State.driveScl_tocnt : (s.drive .scl b).tocnt = s.tocnt := rfl
@[simp] theorem State.driveScl_cfg : (s.drive .scl b).cfg = s.cfg := rfl
@[simp] theorem State.driveScl_inputs : (s.drive .scl b).inputs = s.inputs := rfl
@[simp] theorem State.driveScl_tick : (s.drive .scl b).tick = s.tick := rfl
@[simp] theorem State.driveScl_inputAt (k : Nat) : (s.drive .scl b).inputAt k = s.inputAt k := rfl
@[simp] theorem State.driveScl_input : (s.drive .scl b).input = s.input := rfl
@[simp] theorem State.driveScl_sample (l : InLine) : (s.drive .scl b).sample l = s.sample l := rfl

end driveScl

section driveSda
variable (s : State) (b : Bool)

@[simp] theorem State.driveSda_sclOut : (s.drive .sda b).sclOut = s.sclOut := rfl
@[simp] theorem State.driveSda_sdaOut : (s.drive .sda b).sdaOut = b := rfl
@[simp] theorem State.driveSda_dqOe : (s.drive .sda b).dqOe = s.dqOe := rfl
@[simp] theorem State.driveSda_busy : (s.drive .sda b).busy = s.busy := rfl
@[simp] theorem State.driveSda_opr : (s.drive .sda b).opr = s.opr := rfl
@[simp] theorem State.driveSda_phase : (s.drive .sda b).phase = s.phase := rfl
@[simp] theorem State.driveSda_bitcnt : (s.drive .sda b).bitcnt = s.bitcnt := rfl
@[simp] theorem State.driveSda_txsh : (s.drive .sda b).txsh = s.txsh := rfl
@[simp] theorem State.driveSda_rxsh : (s.drive .sda b).rxsh = s.rxsh := rfl
@[simp] theorem State.driveSda_rvalid : (s.drive .sda b).rvalid = s.rvalid := rfl
@[simp] theorem State.driveSda_err : (s.drive .sda b).err = s.err := rfl
@[simp] theorem State.driveSda_tocnt : (s.drive .sda b).tocnt = s.tocnt := rfl
@[simp] theorem State.driveSda_cfg : (s.drive .sda b).cfg = s.cfg := rfl
@[simp] theorem State.driveSda_inputs : (s.drive .sda b).inputs = s.inputs := rfl
@[simp] theorem State.driveSda_tick : (s.drive .sda b).tick = s.tick := rfl
@[simp] theorem State.driveSda_inputAt (k : Nat) : (s.drive .sda b).inputAt k = s.inputAt k := rfl
@[simp] theorem State.driveSda_input : (s.drive .sda b).input = s.input := rfl
@[simp] theorem State.driveSda_sample (l : InLine) : (s.drive .sda b).sample l = s.sample l := rfl

end driveSda

section driveLow
variable (s : State)

@[simp] theorem State.driveLow_sclOut : (s.driveLow).sclOut = s.sclOut := rfl
@[simp] theorem State.driveLow_sdaOut : (s.driveLow).sdaOut = s.sdaOut := rfl
@[simp] theorem State.driveLow_dqOe : (s.driveLow).dqOe = true := rfl
@[simp] theorem State.driveLow_busy : (s.driveLow).busy = s.busy := rfl
@[simp] theorem State.driveLow_opr : (s.driveLow).opr = s.opr := rfl
@[simp] theorem State.driveLow_phase : (s.driveLow).phase = s.phase := rfl
@[simp] theorem State.driveLow_bitcnt : (s.driveLow).bitcnt = s.bitcnt := rfl
@[simp] theorem State.driveLow_txsh : (s.driveLow).txsh = s.txsh := rfl
@[simp] theorem State.driveLow_rxsh : (s.driveLow).rxsh = s.rxsh := rfl
@[simp] theorem State.driveLow_rvalid : (s.driveLow).rvalid = s.rvalid := rfl
@[simp] theorem State.driveLow_err : (s.driveLow).err = s.err := rfl
@[simp] theorem State.driveLow_tocnt : (s.driveLow).tocnt = s.tocnt := rfl
@[simp] theorem State.driveLow_cfg : (s.driveLow).cfg = s.cfg := rfl
@[simp] theorem State.driveLow_inputs : (s.driveLow).inputs = s.inputs := rfl
@[simp] theorem State.driveLow_tick : (s.driveLow).tick = s.tick := rfl
@[simp] theorem State.driveLow_inputAt (k : Nat) : (s.driveLow).inputAt k = s.inputAt k := rfl
@[simp] theorem State.driveLow_input : (s.driveLow).input = s.input := rfl
@[simp] theorem State.driveLow_sample (l : InLine) : (s.driveLow).sample l = s.sample l := rfl

end driveLow

section release
variable (s : State)

@[simp] theorem State.release_sclOut : (s.release).sclOut = s.sclOut := rfl
@[simp] theorem State.release_sdaOut : (s.release).sdaOut = s.sdaOut := rfl
@[simp] theorem State.release_dqOe : (s.release).dqOe = false := rfl
@[simp] theorem State.release_busy : (s.release).busy = s.busy := rfl
@[simp] theorem State.release_opr : (s.release).opr = s.opr := rfl
@[simp] theorem State.release_phase : (s.release).phase = s.phase := rfl
@[simp] theorem State.release_bitcnt : (s.release).bitcnt = s.bitcnt := rfl
@[simp] theorem State.release_txsh : (s.release).txsh = s.txsh := rfl
@[simp] theorem State.release_rxsh : (s.release).rxsh = s.rxsh := rfl
@[simp] theorem State.release_rvalid : (s.release).rvalid = s.rvalid := rfl
@[simp] theorem State.release_err : (s.release).err = s.err := rfl
@[simp] theorem State.release_tocnt : (s.release).tocnt = s.tocnt := rfl
@[simp] theorem State.release_cfg : (s.release).cfg = s.cfg := rfl
@[simp] theorem State.release_inputs : (s.release).inputs = s.inputs := rfl
@[simp] theorem State.release_tick : (s.release).tick = s.tick := rfl
@[simp] theorem State.release_inputAt (k : Nat) : (s.release).inputAt k = s.inputAt k := rfl
@[simp] theorem State.release_input : (s.release).input = s.input := rfl
@[simp] theorem State.release_sample (l : InLine) : (s.release).sample l = s.sample l := rfl

end release

section setPhase
variable (s : State) (p : BitVec 4)

@[simp] theorem State.setPhase_sclOut : (s.setPhase p).sclOut = s.sclOut := rfl
@[simp] theorem State.setPhase_sdaOut : (s.setPhase p).sdaOut = s.sdaOut := rfl
@[simp] theorem State.setPhase_dqOe : (s.setPhase p).dqOe = s.dqOe := rfl
@[simp] theorem State.setPhase_busy : (s.setPhase p).busy = s.busy := rfl
@[simp] theorem State.setPhase_opr : (s.setPhase p).opr = s.opr := rfl
@[simp] theorem State.setPhase_phase : (s.setPhase p).phase = p := rfl
@[simp] theorem State.setPhase_bitcnt : (s.setPhase p).bitcnt = s.bitcnt := rfl
@[simp] theorem State.setPhase_txsh : (s.setPhase p).txsh = s.txsh := rfl
@[simp] theorem State.setPhase_rxsh : (s.setPhase p).rxsh = s.rxsh := rfl
@[simp] theorem State.setPhase_rvalid : (s.setPhase p).rvalid = s.rvalid := rfl
@[simp] theorem State.setPhase_err : (s.setPhase p).err = s.err := rfl
@[simp] theorem State.setPhase_tocnt : (s.setPhase p).tocnt = 0 := rfl
@[simp] theorem State.setPhase_cfg : (s.setPhase p).cfg = s.cfg := rfl
@[simp] theorem State.setPhase_inputs : (s.setPhase p).inputs = s.inputs := rfl
@[simp] theorem State.setPhase_tick : (s.setPhase p).tick = s.tick := rfl
@[simp] theorem State.setPhase_inputAt (k : Nat) : (s.setPhase p).inputAt k = s.inputAt k := rfl
@[simp] theorem State.setPhase_input : (s.setPhase p).input = s.input := rfl
@[simp] theorem State.setPhase_sample (l : InLine) : (s.setPhase p).sample l = s.sample l := rfl

end setPhase

section complete
variable (s : State)

@[simp] theorem State.complete_sclOut : (s.complete).sclOut = s.sclOut := rfl
@[simp] theorem State.complete_sdaOut : (s.complete).sdaOut = s.sdaOut := rfl
@[simp] theorem State.complete_dqOe : (s.complete).dqOe = s.dqOe := rfl
@[simp] theorem State.complete_busy : (s.complete).busy = false := rfl
@[simp] theorem State.complete_opr : (s.complete).opr = s.opr := rfl
@[simp] theorem State.complete_phase : (s.complete).phase = 0#4 := rfl
@[simp] theorem State.complete_bitcnt : (s.complete).bitcnt = s.bitcnt := rfl
@[simp] theorem State.complete_txsh : (s.complete).txsh = s.txsh := rfl
@[simp] theorem State.complete_rxsh : (s.complete).rxsh = s.rxsh := rfl
@[simp] theorem State.complete_rvalid : (s.complete).rvalid = s.rvalid := rfl
@[simp] theorem State.complete_err : (s.complete).err = s.err := rfl
@[simp] theorem State.complete_tocnt : (s.complete).tocnt = 0 := rfl
@[simp] theorem State.complete_cfg : (s.complete).cfg = s.cfg := rfl
@[simp] theorem State.complete_inputs : (s.complete).inputs = s.inputs := rfl
@[simp] theorem State.complete_tick : (s.complete).tick = s.tick := rfl
@[simp] theorem State.complete_inputAt (k : Nat) : (s.complete).inputAt k = s.inputAt k := rfl
@[simp] theorem State.complete_input : (s.complete).input = s.input := rfl
@[simp] theorem State.complete_sample (l : InLine) : (s.complete).sample l = s.sample l := rfl

end complete

section fail
variable (s : State) (code : Err)

@[simp] theorem State.fail_sclOut : (s.fail code).sclOut = s.sclOut := rfl
@[simp] theorem State.fail_sdaOut : (s.fail code).sdaOut = s.sdaOut := rfl
@[simp] theorem State.fail_dqOe : (s.fail code).dqOe = s.dqOe := rfl
@[simp] theorem State.fail_busy : (s.fail code).busy = false := rfl
@[simp] theorem State.fail_opr : (s.fail code).opr = s.opr := rfl
@[simp] theorem State.fail_phase : (s.fail code).phase = 0#4 := rfl
@[simp] theorem State.fail_bitcnt : (s.fail code).bitcnt = s.bitcnt := rfl
@[simp] theorem State.fail_txsh : (s.fail code).txsh = s.txsh := rfl
@[simp] theorem State.fail_rxsh : (s.fail code).rxsh = s.rxsh := rfl
@[simp] theorem State.fail_rvalid : (s.fail code).rvalid = s.rvalid := rfl
@[simp] theorem State.fail_err : (s.fail code).err = code := rfl
@[simp] theorem State.fail_tocnt : (s.fail code).tocnt = 0 := rfl
@[simp] theorem State.fail_cfg : (s.fail code).cfg = s.cfg := rfl
@[simp] theorem State.fail_inputs : (s.fail code).inputs = s.inputs := rfl
@[simp] theorem State.fail_tick : (s.fail code).tick = s.tick := rfl
@[simp] theorem State.fail_inputAt (k : Nat) : (s.fail code).inputAt k = s.inputAt k := rfl
@[simp] theorem State.fail_input : (s.fail code).input = s.input := rfl
@[simp] theorem State.fail_sample (l : InLine) : (s.fail code).sample l = s.sample l := rfl

end fail

section acceptIllegal
variable (s : State)

@[simp] theorem State.acceptIllegal_sclOut : (s.acceptIllegal).sclOut = s.sclOut := rfl
@[simp] theorem State.acceptIllegal_sdaOut : (s.acceptIllegal).sdaOut = s.sdaOut := rfl
@[simp] theorem State.acceptIllegal_dqOe : (s.acceptIllegal).dqOe = s.dqOe := rfl
@[simp] theorem State.acceptIllegal_busy : (s.acceptIllegal).busy = s.busy := rfl
@[simp] theorem State.acceptIllegal_opr : (s.acceptIllegal).opr = s.opr := rfl
@[simp] theorem State.acceptIllegal_phase : (s.acceptIllegal).phase = s.phase := rfl
@[simp] theorem State.acceptIllegal_bitcnt : (s.acceptIllegal).bitcnt = s.bitcnt := rfl
@[simp] theorem State.acceptIllegal_txsh : (s.acceptIllegal).txsh = s.txsh := rfl
@[simp] theorem State.acceptIllegal_rxsh : (s.acceptIllegal).rxsh = s.rxsh := rfl
@[simp] theorem State.acceptIllegal_rvalid : (s.acceptIllegal).rvalid = s.rvalid := rfl
@[simp] theorem State.acceptIllegal_err : (s.acceptIllegal).err = .illegalCommand := rfl
@[simp] theorem State.acceptIllegal_tocnt : (s.acceptIllegal).tocnt = s.tocnt := rfl
@[simp] theorem State.acceptIllegal_cfg : (s.acceptIllegal).cfg = s.cfg := rfl
@[simp] theorem State.acceptIllegal_inputs : (s.acceptIllegal).inputs = s.inputs := rfl
@[simp] theorem State.acceptIllegal_tick : (s.acceptIllegal).tick = s.tick := rfl
@[simp] theorem State.acceptIllegal_inputAt (k : Nat) : (s.acceptIllegal).inputAt k = s.inputAt k := rfl
@[simp] theorem State.acceptIllegal_input : (s.acceptIllegal).input = s.input := rfl
@[simp] theorem State.acceptIllegal_sample (l : InLine) : (s.acceptIllegal).sample l = s.sample l := rfl

end acceptIllegal

section acceptLegal
variable (s : State) (op : OpField)

@[simp] theorem State.acceptLegal_sclOut : (s.acceptLegal op).sclOut = s.sclOut := rfl
@[simp] theorem State.acceptLegal_sdaOut : (s.acceptLegal op).sdaOut = s.sdaOut := rfl
@[simp] theorem State.acceptLegal_dqOe : (s.acceptLegal op).dqOe = s.dqOe := rfl
@[simp] theorem State.acceptLegal_busy : (s.acceptLegal op).busy = true := rfl
@[simp] theorem State.acceptLegal_opr : (s.acceptLegal op).opr = op := rfl
@[simp] theorem State.acceptLegal_phase : (s.acceptLegal op).phase = 0#4 := rfl
@[simp] theorem State.acceptLegal_bitcnt : (s.acceptLegal op).bitcnt = s.bitcnt := rfl
@[simp] theorem State.acceptLegal_txsh : (s.acceptLegal op).txsh = s.txsh := rfl
@[simp] theorem State.acceptLegal_rxsh : (s.acceptLegal op).rxsh = s.rxsh := rfl
@[simp] theorem State.acceptLegal_rvalid : (s.acceptLegal op).rvalid = s.rvalid := rfl
@[simp] theorem State.acceptLegal_err : (s.acceptLegal op).err = .none := rfl
@[simp] theorem State.acceptLegal_tocnt : (s.acceptLegal op).tocnt = 0 := rfl
@[simp] theorem State.acceptLegal_cfg : (s.acceptLegal op).cfg = s.cfg := rfl
@[simp] theorem State.acceptLegal_inputs : (s.acceptLegal op).inputs = s.inputs := rfl
@[simp] theorem State.acceptLegal_tick : (s.acceptLegal op).tick = s.tick := rfl
@[simp] theorem State.acceptLegal_inputAt (k : Nat) : (s.acceptLegal op).inputAt k = s.inputAt k := rfl
@[simp] theorem State.acceptLegal_input : (s.acceptLegal op).input = s.input := rfl
@[simp] theorem State.acceptLegal_sample (l : InLine) : (s.acceptLegal op).sample l = s.sample l := rfl

end acceptLegal

section countPoll
variable (s : State)

@[simp] theorem State.countPoll_sclOut : (s.countPoll).sclOut = s.sclOut := rfl
@[simp] theorem State.countPoll_sdaOut : (s.countPoll).sdaOut = s.sdaOut := rfl
@[simp] theorem State.countPoll_dqOe : (s.countPoll).dqOe = s.dqOe := rfl
@[simp] theorem State.countPoll_busy : (s.countPoll).busy = s.busy := rfl
@[simp] theorem State.countPoll_opr : (s.countPoll).opr = s.opr := rfl
@[simp] theorem State.countPoll_phase : (s.countPoll).phase = s.phase := rfl
@[simp] theorem State.countPoll_bitcnt : (s.countPoll).bitcnt = s.bitcnt := rfl
@[simp] theorem State.countPoll_txsh : (s.countPoll).txsh = s.txsh := rfl
@[simp] theorem State.countPoll_rxsh : (s.countPoll).rxsh = s.rxsh := rfl
@[simp] theorem State.countPoll_rvalid : (s.countPoll).rvalid = s.rvalid := rfl
@[simp] theorem State.countPoll_err : (s.countPoll).err = s.err := rfl
@[simp] theorem State.countPoll_tocnt : (s.countPoll).tocnt = (s.tocnt + 1) % 2 ^ s.cfg.tocntW := rfl
@[simp] theorem State.countPoll_cfg : (s.countPoll).cfg = s.cfg := rfl
@[simp] theorem State.countPoll_inputs : (s.countPoll).inputs = s.inputs := rfl
@[simp] theorem State.countPoll_tick : (s.countPoll).tick = s.tick := rfl
@[simp] theorem State.countPoll_inputAt (k : Nat) : (s.countPoll).inputAt k = s.inputAt k := rfl
@[simp] theorem State.countPoll_input : (s.countPoll).input = s.input := rfl
@[simp] theorem State.countPoll_sample (l : InLine) : (s.countPoll).sample l = s.sample l := rfl

end countPoll

section resetBlock
variable (s : State)

@[simp] theorem State.resetBlock_sclOut : (s.resetBlock).sclOut = true := rfl
@[simp] theorem State.resetBlock_sdaOut : (s.resetBlock).sdaOut = true := rfl
@[simp] theorem State.resetBlock_dqOe : (s.resetBlock).dqOe = false := rfl
@[simp] theorem State.resetBlock_busy : (s.resetBlock).busy = false := rfl
@[simp] theorem State.resetBlock_opr : (s.resetBlock).opr = 0x0#4 := rfl
@[simp] theorem State.resetBlock_phase : (s.resetBlock).phase = 0#4 := rfl
@[simp] theorem State.resetBlock_bitcnt : (s.resetBlock).bitcnt = 0#6 := rfl
@[simp] theorem State.resetBlock_txsh : (s.resetBlock).txsh = 0x00#8 := rfl
@[simp] theorem State.resetBlock_rxsh : (s.resetBlock).rxsh = 0#40 := rfl
@[simp] theorem State.resetBlock_rvalid : (s.resetBlock).rvalid = false := rfl
@[simp] theorem State.resetBlock_err : (s.resetBlock).err = .none := rfl
@[simp] theorem State.resetBlock_tocnt : (s.resetBlock).tocnt = 0 := rfl
@[simp] theorem State.resetBlock_cfg : (s.resetBlock).cfg = s.cfg := rfl
@[simp] theorem State.resetBlock_inputs : (s.resetBlock).inputs = s.inputs := rfl
@[simp] theorem State.resetBlock_tick : (s.resetBlock).tick = s.tick := rfl
@[simp] theorem State.resetBlock_inputAt (k : Nat) : (s.resetBlock).inputAt k = s.inputAt k := rfl
@[simp] theorem State.resetBlock_input : (s.resetBlock).input = s.input := rfl
@[simp] theorem State.resetBlock_sample (l : InLine) : (s.resetBlock).sample l = s.sample l := rfl

end resetBlock

section nextTick
variable (s : State)

@[simp] theorem State.nextTick_sclOut : (s.nextTick).sclOut = s.sclOut := rfl
@[simp] theorem State.nextTick_sdaOut : (s.nextTick).sdaOut = s.sdaOut := rfl
@[simp] theorem State.nextTick_dqOe : (s.nextTick).dqOe = s.dqOe := rfl
@[simp] theorem State.nextTick_busy : (s.nextTick).busy = s.busy := rfl
@[simp] theorem State.nextTick_opr : (s.nextTick).opr = s.opr := rfl
@[simp] theorem State.nextTick_phase : (s.nextTick).phase = s.phase := rfl
@[simp] theorem State.nextTick_bitcnt : (s.nextTick).bitcnt = s.bitcnt := rfl
@[simp] theorem State.nextTick_txsh : (s.nextTick).txsh = s.txsh := rfl
@[simp] theorem State.nextTick_rxsh : (s.nextTick).rxsh = s.rxsh := rfl
@[simp] theorem State.nextTick_rvalid : (s.nextTick).rvalid = s.rvalid := rfl
@[simp] theorem State.nextTick_err : (s.nextTick).err = s.err := rfl
@[simp] theorem State.nextTick_tocnt : (s.nextTick).tocnt = s.tocnt := rfl
@[simp] theorem State.nextTick_cfg : (s.nextTick).cfg = s.cfg := rfl
@[simp] theorem State.nextTick_inputs : (s.nextTick).inputs = s.inputs.tail := rfl
@[simp] theorem State.nextTick_tick : (s.nextTick).tick = s.tick + 1 := rfl

end nextTick

section skipTicks
variable (s : State) (n : Nat)

@[simp] theorem State.skipTicks_sclOut : (s.skipTicks n).sclOut = s.sclOut := rfl
@[simp] theorem State.skipTicks_sdaOut : (s.skipTicks n).sdaOut = s.sdaOut := rfl
@[simp] theorem State.skipTicks_dqOe : (s.skipTicks n).dqOe = s.dqOe := rfl
@[simp] theorem State.skipTicks_busy : (s.skipTicks n).busy = s.busy := rfl
@[simp] theorem State.skipTicks_opr : (s.skipTicks n).opr = s.opr := rfl
@[simp] theorem State.skipTicks_phase : (s.skipTicks n).phase = s.phase := rfl
@[simp] theorem State.skipTicks_bitcnt : (s.skipTicks n).bitcnt = s.bitcnt := rfl
@[simp] theorem State.skipTicks_txsh : (s.skipTicks n).txsh = s.txsh := rfl
@[simp] theorem State.skipTicks_rxsh : (s.skipTicks n).rxsh = s.rxsh := rfl
@[simp] theorem State.skipTicks_rvalid : (s.skipTicks n).rvalid = s.rvalid := rfl
@[simp] theorem State.skipTicks_err : (s.skipTicks n).err = s.err := rfl
@[simp] theorem State.skipTicks_tocnt : (s.skipTicks n).tocnt = s.tocnt := rfl
@[simp] theorem State.skipTicks_cfg : (s.skipTicks n).cfg = s.cfg := rfl
@[simp] theorem State.skipTicks_inputs : (s.skipTicks n).inputs = s.inputs.drop n := rfl
@[simp] theorem State.skipTicks_tick : (s.skipTicks n).tick = s.tick + n := rfl

end skipTicks

section presentWord
variable (s : State) (w : CmdWord)

@[simp] theorem State.presentWord_sclOut : (s.presentWord w).sclOut = s.sclOut := rfl
@[simp] theorem State.presentWord_sdaOut : (s.presentWord w).sdaOut = s.sdaOut := rfl
@[simp] theorem State.presentWord_dqOe : (s.presentWord w).dqOe = s.dqOe := rfl
@[simp] theorem State.presentWord_busy : (s.presentWord w).busy = false := rfl
@[simp] theorem State.presentWord_opr : (s.presentWord w).opr = s.opr := rfl
@[simp] theorem State.presentWord_phase : (s.presentWord w).phase = s.phase := rfl
@[simp] theorem State.presentWord_bitcnt : (s.presentWord w).bitcnt = s.bitcnt := rfl
@[simp] theorem State.presentWord_txsh : (s.presentWord w).txsh = s.txsh := rfl
@[simp] theorem State.presentWord_rxsh : (s.presentWord w).rxsh = s.rxsh := rfl
@[simp] theorem State.presentWord_rvalid : (s.presentWord w).rvalid = s.rvalid := rfl
@[simp] theorem State.presentWord_err : (s.presentWord w).err = s.err := rfl
@[simp] theorem State.presentWord_tocnt : (s.presentWord w).tocnt = s.tocnt := rfl
@[simp] theorem State.presentWord_cfg : (s.presentWord w).cfg = s.cfg := rfl
@[simp] theorem State.presentWord_inputs : (s.presentWord w).inputs = { s.input with rst := false, cmdValid := true, cmd := w } :: s.inputs.tail := rfl
@[simp] theorem State.presentWord_tick : (s.presentWord w).tick = s.tick := rfl

end presentWord

/-- Skipping ticks moves along the input stream. -/
@[simp] theorem State.skipTicks_inputAt (s : State) (n k : Nat) : (s.skipTicks n).inputAt k = s.inputAt (n + k) := by
  simp [State.inputAt, State.skipTicks, List.getElem?_drop, Nat.add_assoc]

/-- A tick used up is one tick skipped. -/
theorem State.nextTick_eq_skipTicks (s : State) : s.nextTick = s.skipTicks 1 := by
  simp [State.nextTick, State.skipTicks]

/-- The input `k` ticks from now is `k + 1` ticks from the tick before. -/
@[simp] theorem State.nextTick_inputAt (s : State) (k : Nat) : s.nextTick.inputAt k = s.inputAt (k + 1) := by
  rw [State.nextTick_eq_skipTicks, State.skipTicks_inputAt, Nat.add_comm]

@[simp] theorem State.skipTicks_zero (s : State) : s.skipTicks 0 = s := rfl

@[simp] theorem State.skipTicks_skipTicks (s : State) (m n : Nat) : (s.skipTicks m).skipTicks n = s.skipTicks (m + n) := by
  simp [State.skipTicks, Nat.add_assoc]

/-- Presenting a word changes the command port and `rst` of this tick only. -/
@[simp] theorem State.presentWord_input (s : State) (w : CmdWord) :
    (s.presentWord w).input = { s.input with rst := false, cmdValid := true, cmd := w } := rfl

@[simp] theorem State.presentWord_inputAt_succ (s : State) (w : CmdWord) (k : Nat) :
    (s.presentWord w).inputAt (k + 1) = s.inputAt (k + 1) := by
  simp [State.presentWord, State.inputAt]

end Sys2Proof.Machine
end

