-- ==== Sys2Proof/Laws/Ops.lean ====
section
/-! SUPPORT. What each shared operation can do, said once: proofs cite these and do not unfold the operation. -/

namespace Sys2Proof.Machine

@[simp] theorem State.moveOn_phase (s : State) (p : BitVec 4) : s.moveOn (.phase p) = s.setPhase p := rfl

@[simp] theorem State.moveOn_done (s : State) : s.moveOn .done = s.complete := rfl

@[simp] theorem endTick_next (s : State) : endTick (.next s) = .next s.nextTick := rfl

/-- An outcome is a next state after the tick's end only if it was one before. -/
theorem endTick_eq_next {r : Result} {t : State} (h : endTick r = .next t) : ∃ u, r = .next u ∧ t = u.nextTick := by
  cases r with
  | next u => exact ⟨u, rfl, by simpa [endTick] using h.symm⟩
  | fault f => cases f
  | refused q => simp [endTick] at h

/-- An unsuccessful poll spins, counts or fails. -/
theorem State.pollMiss_cases (s : State) (limit : Option Nat) (code : Err) :
    (limit = none ∧ s.pollMiss limit code = s) ∨
    (∃ n, limit = some n ∧ n ≤ s.tocnt + 1 ∧ s.pollMiss limit code = s.fail code) ∨
    (∃ n, limit = some n ∧ s.tocnt + 1 < n ∧ s.pollMiss limit code = s.countPoll) := by
  cases limit with
  | none => exact .inl ⟨rfl, rfl⟩
  | some n =>
    by_cases h : n ≤ s.tocnt + 1
    · exact .inr (.inl ⟨n, rfl, h, by simp [State.pollMiss, h]⟩)
    · exact .inr (.inr ⟨n, rfl, by omega, by simp [State.pollMiss, h]⟩)

/-- A waiting step moves on when the sample differs from the level waited on; else it spins, counts or fails. -/
theorem State.waitWhile_cases (s : State) (l : InLine) (v : Bool) (limit : Option Nat) (code : Err) (nxt : Successor) :
    (s.sample l ≠ v ∧ s.waitWhile l v limit code nxt = s.moveOn nxt) ∨
    (s.sample l = v ∧ limit = none ∧ s.waitWhile l v limit code nxt = s) ∨
    (s.sample l = v ∧ (∃ n, limit = some n ∧ n ≤ s.tocnt + 1) ∧ s.waitWhile l v limit code nxt = s.fail code) ∨
    (s.sample l = v ∧ (∃ n, limit = some n ∧ s.tocnt + 1 < n) ∧ s.waitWhile l v limit code nxt = s.countPoll) := by
  by_cases h : s.sample l = v
  · rcases s.pollMiss_cases limit code with ⟨hl, e⟩ | ⟨n, hl, hn, e⟩ | ⟨n, hl, hn, e⟩
    · exact .inr (.inl ⟨h, hl, by simpa [State.waitWhile, h] using e⟩)
    · exact .inr (.inr (.inl ⟨h, ⟨n, hl, hn⟩, by simpa [State.waitWhile, h] using e⟩))
    · exact .inr (.inr (.inr ⟨h, ⟨n, hl, hn⟩, by simpa [State.waitWhile, h] using e⟩))
  · exact .inl ⟨h, by simp [State.waitWhile, h]⟩

/-- A delay step moves on when the primitive answers, else nothing changes. -/
theorem State.delay_cases (s : State) (nxt : BitVec 4) :
    (s.input.dlyDone = true ∧ s.delay nxt = s.setPhase nxt) ∨ (s.input.dlyDone = false ∧ s.delay nxt = s) := by
  cases h : s.input.dlyDone
  · exact .inr ⟨rfl, by simp [State.delay, h]⟩
  · exact .inl ⟨rfl, by simp [State.delay, h]⟩

/-- After the last bit WRITE_BYTE completes, after any other it goes back to phase 0. -/
theorem nextTxBit_cases (s : State) :
    (s.bitcnt = 1#6 ∧ nextTxBit s = (shiftTx s).complete) ∨ (s.bitcnt ≠ 1#6 ∧ nextTxBit s = (shiftTx s).setPhase 0#4) := by
  by_cases h : s.bitcnt = 1#6
  · exact .inl ⟨h, by simp [nextTxBit, h]⟩
  · exact .inr ⟨h, by simp [nextTxBit, h]⟩

/-- After the fortieth bit phase 9 goes on to Done, after any other to phase 6. -/
theorem afterBit_cases (s : State) :
    (s.bitcnt = 40#6 ∧ afterBit s = .phase 10#4) ∨ (s.bitcnt ≠ 40#6 ∧ afterBit s = .phase 6#4) := by
  by_cases h : s.bitcnt = 40#6
  · exact .inl ⟨h, by simp [afterBit, h]⟩
  · exact .inr ⟨h, by simp [afterBit, h]⟩

/-- A busy block runs a phase of the command in progress whatever command is presented (R96). -/
theorem exec_of_busy (i : Instr) {s : State} (h : s.busy = true) : exec i s = runPhase s := by
  cases i <;> simp [exec, execStart, execStop, execWriteByte, execWaitAck, execSensorRead, h]

/-- A running phase answers a next state only through the micro-program of one of the five commands, with `BITCNT` in range. -/
theorem runPhase_cases {s t : State} (h : runPhase s = .next t) :
    s.bitcnt ≤ 40#6 ∧
    ((s.opr = 0x1#4 ∧ startPhase s = .next t) ∨ (s.opr = 0x2#4 ∧ stopPhase s = .next t) ∨
     (s.opr = 0x3#4 ∧ writeBytePhase s = .next t) ∨ (s.opr = 0x4#4 ∧ waitAckPhase s = .next t) ∨
     (s.opr = 0x8#4 ∧ sensorReadPhase s = .next t)) := by
  unfold runPhase at h
  split at h
  · simp at h
  · rename_i hb
    refine ⟨by simpa using hb, ?_⟩
    split at h <;> simp_all

/-- What START in progress can do. -/
theorem startPhase_cases {s t : State} (h : startPhase s = .next t) :
    (s.phase = 0#4 ∧ t = (s.drive .sda true).setPhase 1#4) ∨ (s.phase = 1#4 ∧ t = (s.drive .scl true).setPhase 2#4) ∨
    (s.phase = 2#4 ∧ t = (s.drive .sda false).setPhase 3#4) ∨ (s.phase = 3#4 ∧ t = (s.drive .scl false).complete) := by
  unfold startPhase at h
  split at h <;> simp_all

/-- What STOP in progress can do. -/
theorem stopPhase_cases {s t : State} (h : stopPhase s = .next t) :
    (s.phase = 0#4 ∧ t = (s.drive .scl false).setPhase 1#4) ∨ (s.phase = 1#4 ∧ t = (s.drive .sda false).setPhase 2#4) ∨
    (s.phase = 2#4 ∧ t = (s.drive .scl true).setPhase 3#4) ∨ (s.phase = 3#4 ∧ t = (s.drive .sda true).complete) := by
  unfold stopPhase at h
  split at h <;> simp_all

/-- What WRITE_BYTE in progress can do. -/
theorem writeBytePhase_cases {s t : State} (h : writeBytePhase s = .next t) :
    (s.phase = 0#4 ∧ t = (s.drive .scl false).setPhase 1#4) ∨ (s.phase = 1#4 ∧ t = (s.drive .sda s.txBit).setPhase 2#4) ∨
    (s.phase = 2#4 ∧ t = nextTxBit (s.drive .scl true)) := by
  unfold writeBytePhase at h
  split at h <;> simp_all

/-- What WAIT_ACK in progress can do. -/
theorem waitAckPhase_cases {s t : State} (h : waitAckPhase s = .next t) :
    (s.phase = 0#4 ∧ t = (s.drive .sda true).setPhase 1#4) ∨ (s.phase = 1#4 ∧ t = (s.drive .scl true).setPhase 2#4) ∨
    (s.phase = 2#4 ∧ t = s.waitWhile .sda true s.cfg.ackTimeout .busAckTimeout .done) := by
  unfold waitAckPhase at h
  split at h <;> simp_all

/-- What SENSOR_READ in progress can do. -/
theorem sensorReadPhase_cases {s t : State} (h : sensorReadPhase s = .next t) :
    (s.phase = 0#4 ∧ t = s.driveLow.setPhase 1#4) ∨ (s.phase = 1#4 ∧ t = s.delay 2#4) ∨
    (s.phase = 2#4 ∧ t = s.release.setPhase 3#4) ∨
    (s.phase = 3#4 ∧ t = sensorWait s true .sensorHandshakeTimeout (.phase 4#4)) ∨
    (s.phase = 4#4 ∧ t = sensorWait s false .sensorHandshakeTimeout (.phase 5#4)) ∨
    (s.phase = 5#4 ∧ t = sensorWait s true .sensorHandshakeTimeout (.phase 6#4)) ∨
    (s.phase = 6#4 ∧ t = sensorWait s false .sensorBitTimeout (.phase 7#4)) ∨
    (s.phase = 7#4 ∧ t = s.delay 8#4) ∨ (s.phase = 8#4 ∧ t = (takeBit s).setPhase 9#4) ∨
    (s.phase = 9#4 ∧ t = sensorWait s true .sensorBitTimeout (afterBit s)) ∨
    (s.phase = 10#4 ∧ t = ({ s with rvalid := true } : State).complete) := by
  unfold sensorReadPhase at h
  split at h <;> simp_all

/-- Every tick that answers a next state is a reset, a phase of the command in progress, an acceptance, a refusal of an illegal word, or
an idle tick (R98, R251). -/
theorem step_cases {s t : State} (h : step s = .next t) :
    (s.input.rst = true ∧ t = s.resetBlock.nextTick) ∨
    (s.input.rst = false ∧ s.busy = true ∧ ∃ u, runPhase s = .next u ∧ t = u.nextTick) ∨
    (s.input.rst = false ∧ s.busy = false ∧ s.input.cmdValid = true ∧
      ∃ i u, decode s.input.cmd = .ok i ∧ exec i s = .next u ∧ t = u.nextTick) ∨
    (s.input.rst = false ∧ s.busy = false ∧ s.input.cmdValid = true ∧ (∃ e, decode s.input.cmd = .error e) ∧
      t = s.acceptIllegal.nextTick) ∨
    (s.input.rst = false ∧ s.busy = false ∧ s.input.cmdValid = false ∧ t = s.nextTick) := by
  unfold step at h
  split at h
  · simp_all
  · split at h
    · obtain ⟨u, hu, rfl⟩ := endTick_eq_next h
      simp_all
    · split at h
      · split at h
        · obtain ⟨u, hu, rfl⟩ := endTick_eq_next h
          simp_all
        · simp_all
      · simp_all

end Sys2Proof.Machine
end

