-- ==== Sys2Proof/Laws/PerInstr.lean ====
section
/-! SUPPORT. A statement about every command as syntax: the word it is encoded as holds its OP and its ARG, and it is well formed. -/

namespace Sys2Proof.Laws.EncodedFields

/-- The fields of a command's word are the command's own (30_encoding.md R90, R92, R101). -/
def Statement (i : Sys2Proof.Instr) : Prop :=
  Sys2Proof.opOf (Sys2Proof.encode i) = i.op ∧ Sys2Proof.argOf (Sys2Proof.encode i) = i.argField ∧ i.wf = true

theorem start : Statement .start := ⟨opOf_mkWord _ _, argOf_mkWord _ _, rfl⟩

theorem stop : Statement .stop := ⟨opOf_mkWord _ _, argOf_mkWord _ _, rfl⟩

theorem writeByte (arg : Sys2Proof.Byte) : Statement (.writeByte arg) := ⟨opOf_mkWord _ _, argOf_mkWord _ _, rfl⟩

theorem waitAck : Statement .waitAck := ⟨opOf_mkWord _ _, argOf_mkWord _ _, rfl⟩

theorem sensorRead : Statement .sensorRead := ⟨opOf_mkWord _ _, argOf_mkWord _ _, rfl⟩

end Sys2Proof.Laws.EncodedFields
end

