-- ==== Sys2Proof/Laws/Run.lean ====
section
/-! SUPPORT. Runs are built tick by tick. -/

namespace Sys2Proof.Machine

@[simp] theorem run_zero (s : State) : run 0 s = .next s := rfl

/-- A run goes on from the state its first tick answers. -/
theorem run_succ_of_next (n : Nat) {s t : State} (h : step s = .next t) : run (n + 1) s = run n t := by
  simp only [run, Host.Core.run]
  rw [show Sys2Proof.core.step s = .next t from h]

/-- A run whose first tick is refused is refused. -/
theorem run_succ_of_refused (n : Nat) {s : State} {r : Refusal} (h : step s = .refused r) : run (n + 1) s = .refused r := by
  simp only [run, Host.Core.run]
  rw [show Sys2Proof.core.step s = .refused r from h]
  rfl

/-- The first tick of a run that ends in a next state answers one. -/
theorem run_succ_eq_next {n : Nat} {s u : State} (h : run (n + 1) s = .next u) : ∃ t, step s = .next t ∧ run n t = .next u := by
  cases e : step s with
  | next t => exact ⟨t, rfl, by rw [run_succ_of_next n e] at h; exact h⟩
  | fault f => cases f
  | refused r =>
    rw [run_succ_of_refused n e] at h
    cases h

/-- Runs compose. -/
theorem run_add (m n : Nat) {s t : State} (h : run m s = .next t) : run (m + n) s = run n t := by
  induction m generalizing s with
  | zero => cases h; rw [Nat.zero_add]
  | succ m ih =>
    obtain ⟨u, hu, h'⟩ := run_succ_eq_next h
    rw [Nat.add_right_comm, run_succ_of_next _ hu, ih h']

/-- The states of a run start with the one its first tick answers. -/
theorem statesAfter_succ_of_next (n : Nat) {s t : State} (h : step s = .next t) : statesAfter (n + 1) s = t :: statesAfter n t := by
  simp [statesAfter, h]

/-- The samples of a run go on from the state its first tick answers. -/
theorem samplesOver_succ_of_next (n : Nat) {s t : State} (h : step s = .next t) :
    samplesOver (n + 1) s = (if s.busy && s.opr == 0x8#4 && s.phase == 8#4 then [s.input.dqI] else []) ++ samplesOver n t := by
  simp [samplesOver, h]

/-- Packing one more bit. -/
@[simp] theorem pack_append_singleton (bits : List Bool) (b : Bool) : pack (bits ++ [b]) = 2 * pack bits + b.toNat := by
  simp [pack]

/-- Packing `n` bits gives a number below `2^n`. -/
theorem pack_lt (bits : List Bool) : pack bits < 2 ^ bits.length := by
  induction bits using List.reverseRecOn with
  | nil => simp [pack]
  | append_singleton l b ih =>
    have hb : b.toNat ≤ 1 := by cases b <;> decide
    simp only [pack_append_singleton, List.length_append, List.length_singleton, Nat.pow_succ]
    omega

/-- The shift of phase 8 as arithmetic. -/
theorem shiftIn_toNat (v : BitVec 40) (b : Bool) : (shiftIn v b).toNat = (2 * v.toNat + b.toNat) % 2 ^ 40 := by
  have h : (v <<< 1) &&& (BitVec.ofNat 40 b.toNat) = 0#40 := by
    apply BitVec.eq_of_getLsbD_eq
    intro i hi
    cases i <;> cases b <;> simp [BitVec.getLsbD_shiftLeft, BitVec.getLsbD_ofNat, Nat.testBit_succ]
  rw [shiftIn, ← BitVec.add_eq_or_of_and_eq_zero _ _ h, BitVec.toNat_add, BitVec.toNat_shiftLeft, BitVec.toNat_ofNat, Nat.shiftLeft_eq]
  omega

end Sys2Proof.Machine
end

