-- ==== Sys2Proof/Tests/Slice0.lean ====
section
/-! SUPPORT. Checks of the model against values written in the spec (each names its source), and for every statement with hypotheses a
concrete state that meets them all. -/

namespace Sys2Proof.Tests

open Sys2Proof.Machine

/-! ### Well-formedness -/

/-- A bounded wait needs at least one poll (00_scope.md R10). -/
theorem test_zero_ack_timeout_is_refused : (⟨some 0, none, 16⟩ : Params).wf = false := by decide

theorem test_zero_sensor_timeout_is_refused : (⟨none, some 0, 16⟩ : Params).wf = false := by decide

/-- A timeout is below `2^TOCNT_W` (R10). -/
theorem test_ack_timeout_too_wide_is_refused : (⟨some 8, none, 3⟩ : Params).wf = false ∧ (⟨some 7, none, 3⟩ : Params).wf = true := by decide

theorem test_sensor_timeout_too_wide_is_refused : (⟨none, some 8, 3⟩ : Params).wf = false ∧ (⟨none, some 7, 3⟩ : Params).wf = true := by decide

/-- The short enable delay is the shorter one (42_host_sequences.md R212); LCD_INIT has five bytes (R209). -/
theorem test_display_delays_swapped_are_refused :
    (Config.hostParams 2 2).wf = false ∧ ({ Config.hostParams 1 2 with initBytes := [0x02#8] } : HostParams).wf = false ∧
    (Config.hostParams 1 2).wf = true := by decide

/-! ### Decoding: words written from the table of 30_encoding.md R92 -/

theorem test_decode_start : decode 0b000100000000#12 = .ok .start ∧ decode 0b000110101011#12 = .ok .start := ⟨rfl, rfl⟩

theorem test_decode_stop : decode 0b001000000000#12 = .ok .stop := rfl

/-- V-WB-4E: the operand is bits 7 to 0 as they stand. -/
theorem test_decode_write_byte : decode 0b001101001110#12 = .ok (.writeByte 0x4E#8) := rfl

theorem test_decode_wait_ack : decode 0b010000000000#12 = .ok .waitAck := rfl

theorem test_decode_sensor_read : decode 0b100000000000#12 = .ok .sensorRead := rfl

/-- V-ILL-1, V-ILL-2, V-ILL-4. -/
theorem test_decode_illegal :
    decode 0x000#12 = .error (.illegalOp 0x0#4) ∧ decode 0x5AA#12 = .error (.illegalOp 0x5#4) ∧ decode 0x9FF#12 = .error (.illegalOp 0x9#4) ∧
    decode 0xF00#12 = .error (.illegalOp 0xF#4) := ⟨rfl, rfl, rfl, rfl⟩

theorem test_decode_table_word : decodeTableWord 16 0x34E = some (.writeByte 0x4E#8) ∧ decodeTableWord 16 0x600 = none := ⟨rfl, rfl⟩

/-! ### Small states -/

/-- A tick on which nothing is asked and both lines are high. -/
def quiet : Input := { rst := false, cmdValid := false, cmd := 0x000#12, sdaI := true, dqI := true, dlyDone := false }

/-- A tick on which a word is presented. -/
def asking (w : CmdWord) : Input := { quiet with cmdValid := true, cmd := w }

/-- The reset state with a schedule of inputs. -/
def idleWith (ins : List Input) : State := { State.reset with inputs := ins }

/-- A state in the middle of a command. -/
def during (op : OpField) (p : BitVec 4) (ins : List Input) : State := { State.reset with busy := true, opr := op, phase := p, inputs := ins }

/-- The state with both waits bounded by `n` polls. -/
def bounded (n : Nat) (s : State) : State := { s with cfg := { ackTimeout := some n, sensorTimeout := some n, tocntW := 3 } }

/-- The next state, or the state itself where there is none. -/
def after (r : Result) (s : State) : State :=
  match r with
  | .next t => t
  | .fault _ => s
  | .refused _ => s

/-- The state after one tick with command `i` presented. -/
def tickOf (i : Instr) (s : State) : State := after (exec i s) s

/-! ### One tick of each command, against 95_test_vectors.md -/

/-- V-START-4, tick 0. -/
theorem test_start_acceptance_clears_err :
    let t := tickOf .start { idleWith [quiet] with err := .illegalCommand }
    t.busy = true ∧ t.opr = 0x1#4 ∧ t.phase = 0#4 ∧ t.err.code = 0#3 := by decide

/-- V-START-3, tick 3: data falls with the clock high. -/
theorem test_start_marker :
    let t := tickOf .start (during 0x1#4 2#4 [quiet])
    t.latches = (true, false) ∧ t.phase = 3#4 ∧ t.busy = true := by decide

/-- V-STOP-3, tick 1. -/
theorem test_stop_lowers_clock_first :
    (tickOf .stop { during 0x2#4 0#4 [quiet] with sdaOut := false }).latches = (false, false) := by decide

/-- V-STOP-1, tick 4. -/
theorem test_stop_ends :
    let t := tickOf .stop { during 0x2#4 3#4 [quiet] with sdaOut := false }
    t.latches = (true, true) ∧ t.busy = false ∧ t.phase = 0#4 := by decide

/-- V-WB-4E, tick 5: the second bit of 0x4E is 1, and the state of V-RST-1. -/
theorem test_write_byte_second_bit :
    let t := tickOf (.writeByte 0x00#8) { during 0x3#4 1#4 [quiet] with sclOut := false, sdaOut := false, bitcnt := 7#6, txsh := 0x9C#8 }
    t.latches = (false, true) ∧ t.phase = 2#4 ∧ t.bitcnt = 7#6 ∧ t.txsh = 0x9C#8 := by decide

/-- V-WB-01, tick 24. -/
theorem test_write_byte_last_bit :
    let t := tickOf (.writeByte 0x01#8) { during 0x3#4 2#4 [quiet] with sclOut := false, bitcnt := 1#6, txsh := 0x80#8 }
    t.latches = (true, true) ∧ t.busy = false ∧ t.bitcnt = 0#6 ∧ t.txsh = 0x00#8 := by decide

/-- V-ACK-5, tick 5: the line low on the third of three polls is a success. -/
theorem test_wait_ack_success_before_limit :
    let t := tickOf .waitAck (bounded 3 { during 0x4#4 2#4 [{ quiet with sdaI := false }] with tocnt := 2 })
    t.busy = false ∧ t.err.code = 0#3 ∧ t.tocnt = 0 := by decide

/-- V-ACK-4, tick 5. -/
theorem test_wait_ack_fails_on_the_limit :
    let t := tickOf .waitAck (bounded 3 { during 0x4#4 2#4 [quiet] with tocnt := 2 })
    t.busy = false ∧ t.err.code = 1#3 ∧ t.tocnt = 0 ∧ t.latches = (true, true) ∧ t.opr = 0x4#4 := by decide

/-- V-SR-A after the eleventh sample: the bits `00101101 000`. -/
theorem test_sensor_read_eleventh_bit :
    let t := tickOf .sensorRead { during 0x8#4 8#4 [{ quiet with dqI := false }] with bitcnt := 10#6, rxsh := 0xB4#40 }
    t.rxsh = 0x168#40 ∧ t.bitcnt = 11#6 ∧ t.phase = 9#4 ∧ t.rvalid = false := by decide

/-- V-SR-CUT, tick 55: the fifth missed poll of phase 6. -/
theorem test_sensor_read_cut_short :
    let t := tickOf .sensorRead (bounded 5 { during 0x8#4 6#4 [{ quiet with dqI := false }] with bitcnt := 11#6, rxsh := 0x168#40, tocnt := 4 })
    t.err.code = 3#3 ∧ t.busy = false ∧ t.bitcnt = 11#6 ∧ t.rxsh = 0x168#40 ∧ t.rvalid = false ∧ t.dqOe = false := by decide

/-- V-CHK: the boundary case of the document, and its neighbour. -/
theorem test_checksum :
    ({ State.reset with rvalid := true, rxsh := 0xC86400002C#40 } : State).chkok = true ∧
    ({ State.reset with rvalid := true, rxsh := 0xC86400002D#40 } : State).chkok = false ∧
    ({ State.reset with rvalid := false, rxsh := 0xC86400002C#40 } : State).chkok = false := by decide

/-- V-ILL-1, V-BUSY-1 and V-RST-1: an illegal word; a word for a busy block; reset over both. -/
theorem test_step_priorities :
    (after (step (idleWith [asking 0x000#12])) State.reset).err.code = 4#3 ∧
    (after (step (during 0x1#4 0#4 [asking 0x200#12])) State.reset).opr = 0x1#4 ∧
    (after (step { during 0x3#4 2#4 [{ asking 0x100#12 with rst := true }] with sclOut := false }) (idleWith [])).busy = false := by decide

/-- V-UNIT: `LCD_CMD 0x28`. -/
theorem test_display_unit :
    hostWords ((Pseudo.lcdCmd 0x28#8).expand (Config.hostParams 1 2)) =
      [0x100#12, 0x34E#12, 0x400#12, 0x32C#12, 0x400#12, 0x328#12, 0x400#12, 0x38C#12, 0x400#12, 0x388#12, 0x400#12, 0x200#12] := by decide

/-- V-WB-4E, tick 0, with the word placed for the host right after reset. -/
theorem test_placed_word_runs :
    let t := after (step (State.reset.withFetchWord 16 0x34E)) State.reset
    t.busy = true ∧ t.opr = 0x3#4 ∧ t.txsh = 0x4E#8 ∧ t.bitcnt = 8#6 := by decide

/-! ### States that meet the hypotheses of the statements, one theorem a statement, with each clause's own state -/

theorem witness_DecodeEncodeAgree :
    (Instr.writeByte 0xFF#8).wf = true ∧ (decode 0x3FF#12 = .ok (.writeByte 0xFF#8) ∧ opOf 0x3FF#12 = 0x3#4) ∧
    (decode 0x1AB#12 = .ok .start ∧ opOf 0x1AB#12 ≠ 0x3#4) := ⟨rfl, ⟨rfl, rfl⟩, rfl, by decide⟩

theorem witness_DecoderAcceptsFiveOpcodes : ¬∃ i, decode 0x5AA#12 = .ok i := by
  rintro ⟨i, h⟩
  have e : decode 0x5AA#12 = .error (.illegalOp 0x5#4) := rfl
  rw [e] at h
  cases h

theorem witness_OnlyWriteByteReadsArg : (0x2#4 : OpField) ≠ 0x3#4 ∧ (0x4#4 : OpField) ≠ 0x3#4 := by decide

/-- The tick of acceptance, a tick of the command in progress, and a refused tick. -/
theorem witness_StepRunsDecodedCommand :
    (∀ s ∈ [idleWith [asking 0x8FF#12], during 0x8#4 10#4 [asking 0x8FF#12], during 0x8#4 11#4 [asking 0x8FF#12]],
      s.input.rst = false ∧ s.input.cmdValid = true ∧ opOf s.input.cmd = 0x8#4) ∧
    decode 0x8FF#12 = .ok .sensorRead ∧ Instr.sensorRead.wf = true ∧
    exec .sensorRead (during 0x8#4 11#4 [asking 0x8FF#12]) = .refused (.unreachablePhase 0x8#4 11#4) := ⟨by decide, rfl, rfl, rfl⟩

theorem witness_BusyBlockIgnoresCommandPort :
    (during 0x1#4 0#4 [quiet]).busy = true ∧ (during 0x1#4 0#4 [quiet]).input.rst = false ∧
    ∃ t, exec .stop (during 0x1#4 0#4 [quiet]) = .next t := ⟨rfl, rfl, _, rfl⟩

theorem witness_IdleTickChangesNothing :
    let s := idleWith [quiet]
    s.busy = false ∧ s.input.rst = false ∧ s.input.cmdValid = false := by decide

/-- Program P5's two illegal words. -/
theorem witness_IllegalWordsSetErrOnly :
    let s := idleWith [asking 0x000#12, asking 0x9FF#12]
    s.busy = false ∧ NoReset 2 s ∧ ∀ k ≤ 1, (s.inputAt k).cmdValid = true ∧ ∃ e, decode (s.inputAt k).cmd = .error e := by
  refine ⟨rfl, by decide, fun k hk => ?_⟩
  obtain rfl | rfl : k = 0 ∨ k = 1 := by omega
  · exact ⟨rfl, _, rfl⟩
  · exact ⟨rfl, _, rfl⟩

/-- V-RST-1 and V-RST-2. -/
theorem witness_ResetTickFromEveryState :
    let s := during 0x3#4 2#4 [{ asking 0x100#12 with rst := true }, asking 0x100#12]
    s.input.rst = true ∧ (s.inputAt 1).rst = false ∧ (s.inputAt 1).cmdValid = true ∧ decode (s.inputAt 1).cmd = .ok .start :=
  ⟨rfl, rfl, rfl, rfl⟩

theorem witness_PlacedWordRunsNext : decodeTableWord 16 0x3FF = some (.writeByte 0xFF#8) := rfl

theorem witness_AcceptanceOfEachCommand : (idleWith [quiet]).busy = false := rfl

theorem witness_StartPhaseByPhase :
    ∀ p ∈ [0#4, 1#4, 2#4, 3#4], let s := { during 0x1#4 p [quiet] with bitcnt := 40#6 }
      s.busy = true ∧ s.opr = 0x1#4 ∧ s.bitcnt ≤ 40#6 ∧ s.phase = p := by decide

theorem witness_StopPhaseByPhase :
    ∀ p ∈ [0#4, 1#4, 2#4, 3#4], let s := { during 0x2#4 p [quiet] with bitcnt := 40#6 }
      s.busy = true ∧ s.opr = 0x2#4 ∧ s.bitcnt ≤ 40#6 ∧ s.phase = p := by decide

/-- The last bit, and the bit before it. -/
theorem witness_WriteBytePhaseByPhase :
    (∀ b ∈ [2#6, 8#6, 40#6], ∀ p ∈ [0#4, 1#4, 2#4],
      let s := { during 0x3#4 p [quiet] with bitcnt := b }
      s.busy = true ∧ s.opr = 0x3#4 ∧ s.bitcnt ≤ 40#6 ∧ s.phase = p ∧ s.bitcnt ≠ 1#6) ∧
    (let s := { during 0x3#4 2#4 [quiet] with bitcnt := 1#6 }
     s.busy = true ∧ s.opr = 0x3#4 ∧ s.bitcnt ≤ 40#6 ∧ s.phase = 2#4 ∧ s.bitcnt = 1#6) := by decide

/-- A successful poll; a missed one with no limit; the last of seven and the one before it. -/
theorem witness_WaitAckPhaseByPhase :
    (∀ p ∈ [0#4, 1#4, 2#4], let s := during 0x4#4 p [{ quiet with sdaI := false }]
      s.busy = true ∧ s.opr = 0x4#4 ∧ s.bitcnt ≤ 40#6 ∧ s.phase = p ∧ s.input.sdaI = false) ∧
    (let s := during 0x4#4 2#4 [quiet]
     s.busy = true ∧ s.opr = 0x4#4 ∧ s.bitcnt ≤ 40#6 ∧ s.phase = 2#4 ∧ s.input.sdaI = true ∧ s.cfg.ackTimeout = none) ∧
    (let s := bounded 7 { during 0x4#4 2#4 [quiet] with tocnt := 6 }
     s.busy = true ∧ s.opr = 0x4#4 ∧ s.bitcnt ≤ 40#6 ∧ s.phase = 2#4 ∧ s.input.sdaI = true ∧ s.cfg.ackTimeout = some 7 ∧ 7 ≤ s.tocnt + 1) ∧
    (let s := bounded 7 { during 0x4#4 2#4 [quiet] with tocnt := 5 }
     s.busy = true ∧ s.opr = 0x4#4 ∧ s.bitcnt ≤ 40#6 ∧ s.phase = 2#4 ∧ s.input.sdaI = true ∧ s.cfg.ackTimeout = some 7 ∧ s.tocnt + 1 < 7 ∧
       7 < 2 ^ s.cfg.tocntW) := by decide

theorem witness_SensorRequestPhaseByPhase :
    ∀ p ∈ [0#4, 1#4, 2#4], ∀ d : Bool, let s := during 0x8#4 p [{ quiet with dlyDone := d }]
      s.busy = true ∧ s.opr = 0x8#4 ∧ s.bitcnt ≤ 40#6 ∧ s.phase = p ∧ s.input.dlyDone = d := by decide

/-- In each of phases 3 to 5: both levels, no limit, the last of seven polls and the one before it. -/
theorem witness_SensorHandshakePhaseByPhase :
    ∀ p ∈ [3#4, 4#4, 5#4], ∀ l : Bool,
      (let s := during 0x8#4 p [{ quiet with dqI := l }]
       s.busy = true ∧ s.opr = 0x8#4 ∧ s.bitcnt ≤ 40#6 ∧ (p = 3#4 ∨ p = 4#4 ∨ p = 5#4) ∧ s.phase = p ∧ s.input.dqI = l ∧ s.cfg.sensorTimeout = none) ∧
      ∀ c ∈ [6, 5], let s := bounded 7 { during 0x8#4 p [{ quiet with dqI := l }] with tocnt := c }
       s.busy = true ∧ s.opr = 0x8#4 ∧ s.bitcnt ≤ 40#6 ∧ s.phase = p ∧ s.input.dqI = l ∧ s.cfg.sensorTimeout = some 7 ∧
         (7 ≤ s.tocnt + 1 ∨ s.tocnt + 1 < 7 ∧ 7 < 2 ^ s.cfg.tocntW) := by decide

/-- In each of phases 6 to 9: both levels, both answers of the primitive, both ends of the bit count, and the waits as above. -/
theorem witness_SensorBitPhaseByPhase :
    (∀ p ∈ [6#4, 7#4, 8#4, 9#4], ∀ l d : Bool, ∀ b ∈ [39#6, 40#6],
      let s := { during 0x8#4 p [{ quiet with dqI := l, dlyDone := d }] with bitcnt := b }
      s.busy = true ∧ s.opr = 0x8#4 ∧ s.bitcnt ≤ 40#6 ∧ s.phase = p ∧ s.input.dqI = l ∧ s.input.dlyDone = d ∧ s.cfg.sensorTimeout = none) ∧
    (∀ x ∈ [(6#4, false), (9#4, true)], ∀ c ∈ [6, 5], let s := bounded 7 { during 0x8#4 x.1 [{ quiet with dqI := x.2 }] with tocnt := c }
      s.busy = true ∧ s.opr = 0x8#4 ∧ s.bitcnt ≤ 40#6 ∧ ((s.phase = 6#4 ∧ s.input.dqI = false) ∨ (s.phase = 9#4 ∧ s.input.dqI = true)) ∧
        s.cfg.sensorTimeout = some 7 ∧ (7 ≤ s.tocnt + 1 ∨ s.tocnt + 1 < 7 ∧ 7 < 2 ^ s.cfg.tocntW)) := ⟨by decide, by decide⟩

theorem witness_SensorDonePhase :
    let s := { during 0x8#4 10#4 [quiet] with bitcnt := 40#6 }
    s.busy = true ∧ s.opr = 0x8#4 ∧ s.bitcnt ≤ 40#6 ∧ s.phase = 10#4 := by decide

/-- A refused phase, a refused bit count, and a state that is not refused. -/
theorem witness_OnlyUnreachablePhasesRefused :
    step (during 0x3#4 3#4 [quiet]) = .refused (.unreachablePhase 0x3#4 3#4) ∧
    step { during 0x3#4 2#4 [quiet] with bitcnt := 41#6 } = .refused (.bitCountOutOfRange 41#6) ∧
    (∃ t, step { during 0x3#4 2#4 [quiet] with bitcnt := 40#6 } = .next t) ∧ (during 0x3#4 3#4 [quiet]).input.rst = false :=
  ⟨rfl, rfl, ⟨_, rfl⟩, rfl⟩

/-! Whole commands -/

theorem witness_StartRunsToCompletion :
    let s := { idleWith (List.replicate 5 quiet) with bitcnt := 40#6 }
    s.busy = false ∧ s.bitcnt ≤ 40#6 ∧ NoReset 5 s := by decide

theorem witness_StopRunsToCompletion :
    let s := { idleWith (List.replicate 5 quiet) with sclOut := false, sdaOut := false }
    s.busy = false ∧ s.bitcnt ≤ 40#6 ∧ NoReset 5 s := by decide

theorem witness_WriteByteRunsToCompletion :
    let s := idleWith (List.replicate 25 quiet)
    s.busy = false ∧ NoReset 25 s := by decide

/-- V-ACK-5: success on the last of three polls. -/
theorem witness_WaitAckRunsToCompletion :
    let s := bounded 3 (idleWith (List.replicate 5 quiet ++ [{ quiet with sdaI := false }]))
    s.busy = false ∧ s.bitcnt ≤ 40#6 ∧ s.cfg.wf = true ∧ belowLimit s.cfg.ackTimeout 2 = true ∧ NoReset 6 s ∧
      (∀ k < 2, (s.inputAt (k + 3)).sdaI = true) ∧ (s.inputAt 5).sdaI = false := by decide

/-- V-ACK-4. -/
theorem witness_WaitAckTimesOut :
    let s := bounded 3 (idleWith (List.replicate 6 quiet))
    s.busy = false ∧ s.bitcnt ≤ 40#6 ∧ s.cfg.ackTimeout = some 3 ∧ 1 ≤ 3 ∧ 3 < 2 ^ s.cfg.tocntW ∧ NoReset 6 s ∧
      ∀ k < 3, (s.inputAt (k + 3)).sdaI = true := by decide

/-- V-ACK-3. -/
theorem witness_WaitAckHangsWithoutLimit :
    let s := idleWith (List.replicate 7 quiet)
    s.busy = false ∧ s.bitcnt ≤ 40#6 ∧ s.cfg.ackTimeout = none ∧ NoReset 7 s ∧ ∀ k < 4, (s.inputAt (k + 3)).sdaI = true := by decide

/-- An input that meets a need. -/
def inputFor : Need → Input
  | .anything => quiet
  | .delayHolds => quiet
  | .delayEnds => { quiet with dlyDone := true }
  | .dq b => { quiet with dqI := b }

/-- An exchange with one missed poll in every wait: V-SR-A's bytes. -/
def slowExchange : ReadPlan :=
  { requestWaits := 1, answerPolls := 1, responsePolls := 1, readyPolls := 1,
    bits := ([45#8, 0#8, 23#8, 5#8, 73#8].flatMap ser8).map fun b => { lowPolls := 1, delayWaits := 1, bit := b, highPolls := 1 } }

set_option maxRecDepth 20000 in
/-- The waits at their last poll: a limit of 2. -/
theorem witness_SensorReadRunsToCompletion :
    let s := bounded 2 (idleWith (slowExchange.needs.map inputFor))
    s.busy = false ∧ s.dqOe = false ∧ s.cfg.wf = true ∧ slowExchange.bits.length = 40 ∧ slowExchange.inTime s.cfg.sensorTimeout = true ∧
      meets slowExchange.needs s = true := by decide

/-- The reading of Scenario A. -/
theorem test_scenario_a_packs : BitVec.ofNat 40 (pack (slowExchange.bits.map BitPlan.bit)) = 0x2D00170549#40 := by decide

/-- Four ticks into an exchange. -/
theorem witness_SensorReadingIsPackOfSamples :
    let s := idleWith (List.replicate 4 quiet)
    ∃ t u, s.busy = false ∧ exec .sensorRead s = .next t ∧ NoReset 3 t.nextTick ∧
      (∀ k < 3, ∃ w, run k t.nextTick = .next w ∧ w.busy = true) ∧ run 3 t.nextTick = .next u := by
  refine ⟨_, _, rfl, rfl, by decide, fun k hk => ?_, rfl⟩
  obtain rfl | rfl | rfl : k = 0 ∨ k = 1 ∨ k = 2 := by omega
  · exact ⟨_, rfl, rfl⟩
  · exact ⟨_, rfl, rfl⟩
  · exact ⟨_, rfl, rfl⟩

/-- Each of the next `n` ticks finds the block busy and answers a next state. -/
def stillBusy : Nat → State → Bool
  | 0, _ => true
  | n + 1, s =>
    match step s with
    | .next t => s.busy && stillBusy n t
    | .fault _ => false
    | .refused _ => false

/-- A block still busy over `n` ticks answers their run and is busy after each shorter one. -/
theorem run_of_stillBusy {n : Nat} {s : State} (h : stillBusy n s = true) :
    run n s = .next (after (run n s) s) ∧ ∀ k < n, ∃ w, run k s = .next w ∧ w.busy = true := by
  induction n generalizing s with
  | zero => exact ⟨rfl, by simp⟩
  | succ n ih =>
    cases e : step s with
    | fault f => cases f
    | refused r => simp [stillBusy, e] at h
    | next t =>
      simp only [stillBusy, e, Bool.and_eq_true] at h
      obtain ⟨hr, hk⟩ := ih h.2
      refine ⟨by rw [run_succ_of_next n e, hr]; rfl, ?_⟩
      rintro (_ | k) hlt
      · exact ⟨s, rfl, h.1⟩
      · rw [run_succ_of_next k e]
        exact hk k (by omega)

/-- V-SR-A with every wait ended by its first poll. -/
def quickExchange : ReadPlan :=
  { requestWaits := 0, answerPolls := 0, responsePolls := 0, readyPolls := 0,
    bits := ([45#8, 0#8, 23#8, 5#8, 73#8].flatMap ser8).map fun b => { lowPolls := 0, delayWaits := 0, bit := b, highPolls := 0 } }

/-- That exchange right after its acceptance tick. -/
def quickAccepted : State := (tickOf .sensorRead (idleWith (quickExchange.needs.map inputFor))).nextTick

set_option maxRecDepth 20000 in
theorem quick_busy : stillBusy 167 quickAccepted = true := by decide

set_option maxRecDepth 20000 in
theorem quick_no_reset : NoReset 167 quickAccepted := by decide

set_option maxRecDepth 20000 in
/-- V-SR-A: the tick the spec counts, and the reading. -/
theorem quick_end :
    let u := after (run 167 quickAccepted) quickAccepted
    u.rvalid = true ∧ u.busy = false ∧ u.err = .none ∧ u.rxsh = 0x2D00170549#40 := by decide

/-- The same at the end of an exchange: after forty samples the reading is valid and the block idle without an error. -/
theorem witness_SensorReadingIsPackOfSamples_completed :
    let s := idleWith (quickExchange.needs.map inputFor)
    ∃ t u, s.busy = false ∧ exec .sensorRead s = .next t ∧ NoReset 167 t.nextTick ∧
      (∀ k < 167, ∃ w, run k t.nextTick = .next w ∧ w.busy = true) ∧ run 167 t.nextTick = .next u ∧
      u.rvalid = true ∧ u.busy = false ∧ u.err = .none :=
  ⟨tickOf .sensorRead (idleWith (quickExchange.needs.map inputFor)), _, rfl, rfl, quick_no_reset, (run_of_stillBusy quick_busy).2,
    (run_of_stillBusy quick_busy).1, quick_end.1, quick_end.2.1, quick_end.2.2.1⟩

/-- V-C with three polls and one tick of waiting for the delay. -/
theorem witness_SensorAbsentTimesOut :
    let needs : List Need := [Need.anything, Need.anything] ++ List.replicate 1 Need.delayHolds ++ [Need.delayEnds, Need.anything] ++ List.replicate 3 (Need.dq true)
    let s := bounded 3 (idleWith (needs.map inputFor))
    s.busy = false ∧ s.dqOe = false ∧ s.cfg.sensorTimeout = some 3 ∧ 1 ≤ 3 ∧ 3 < 2 ^ s.cfg.tocntW ∧ meets needs s = true := by decide

theorem witness_SensorWaitTimesOut :
    ∀ x ∈ [(3#4, true), (4#4, false), (5#4, true), (6#4, false), (9#4, true)],
      let s := bounded 2 (during 0x8#4 x.1 (List.replicate 2 { quiet with dqI := x.2 }))
      s.busy = true ∧ s.opr = 0x8#4 ∧ s.bitcnt ≤ 40#6 ∧ sensorPolls s.phase = true ∧ s.tocnt = 0 ∧ s.cfg.sensorTimeout = some 2 ∧ 1 ≤ 2 ∧
        2 < 2 ^ s.cfg.tocntW ∧ NoReset 2 s ∧ ∀ k < 2, (s.inputAt k).dqI = !(s.phase == 4#4 || s.phase == 6#4) := by decide

theorem witness_SensorWaitHangsWithoutLimit :
    ∀ x ∈ [(3#4, true), (4#4, false), (5#4, true), (6#4, false), (9#4, true)],
      let s := during 0x8#4 x.1 (List.replicate 3 { quiet with dqI := x.2 })
      s.busy = true ∧ s.opr = 0x8#4 ∧ s.bitcnt ≤ 40#6 ∧ sensorPolls s.phase = true ∧ s.cfg.sensorTimeout = none ∧ NoReset 3 s ∧
        ∀ k < 3, (s.inputAt k).dqI = !(s.phase == 4#4 || s.phase == 6#4) := by decide

theorem witness_UnansweredDelayHangs :
    ∀ p ∈ [1#4, 7#4], let s := bounded 1 (during 0x8#4 p (List.replicate 3 quiet))
      s.busy = true ∧ s.opr = 0x8#4 ∧ s.bitcnt ≤ 40#6 ∧ (s.phase = 1#4 ∨ s.phase = 7#4) ∧ NoReset 3 s ∧
        ∀ k < 3, (s.inputAt k).dlyDone = false := by decide

/-- A tick of 20 ms: the request is answered on its second tick. -/
def timedRequest : State := idleWith ([asking 0x800#12, quiet, quiet, { quiet with dlyDone := true }, quiet, quiet, quiet])

theorem witness_RequestPulseIsLongEnough :
    (0 < 20000000 ∧ timedRequest.busy = false ∧ timedRequest.dqOe = false ∧ timedRequest.input.cmdValid = true ∧
      decode timedRequest.input.cmd = .ok .sensorRead) ∧
    NoReset (Config.delayTicks 20000000 Config.tReq + 5) timedRequest ∧
    PrimitiveObeys 20000000 (Config.delayTicks 20000000 Config.tReq + 5) timedRequest :=
  ⟨⟨by decide, rfl, rfl, rfl, rfl⟩, by decide, by decide, by decide⟩

/-- A tick of 15 microseconds: the sample delay is answered on its third tick. -/
def timedBit : State := during 0x8#4 6#4 [quiet, quiet, quiet, { quiet with dlyDone := true }, quiet, quiet]

theorem witness_SampleOffsetIsBounded :
    (0 < 15000 ∧ timedBit.busy = true ∧ timedBit.opr = 0x8#4 ∧ timedBit.phase = 6#4 ∧ timedBit.bitcnt < 40#6 ∧ timedBit.input.dqI = true) ∧
    NoReset (Config.delayTicks 15000 Config.tSample + 3) timedBit ∧
    PrimitiveObeys 15000 (Config.delayTicks 15000 Config.tSample + 3) timedBit ∧
    (100 ≤ 15099 ∧ 15099 < 100 + 15000) :=
  ⟨by decide, by decide, ⟨by decide, by decide⟩, by decide⟩

/-! Invariants and frames -/

/-- States in progress that meet the invariant: WAIT_ACK polling, and the sensor line at its four handoffs. -/
theorem inv_polling : (bounded 2 { during 0x4#4 2#4 [quiet] with tocnt := 1 }).Inv :=
  ⟨by constructor <;> decide, by constructor <;> decide, by constructor <;> decide⟩

theorem inv_taking_line : (during 0x8#4 0#4 [quiet]).Inv :=
  ⟨by constructor <;> decide, by constructor <;> decide, by constructor <;> decide⟩

theorem inv_releasing_line : ({ during 0x8#4 2#4 [quiet] with dqOe := true } : State).Inv :=
  ⟨by constructor <;> decide, by constructor <;> decide, by constructor <;> decide⟩

theorem inv_answered : (during 0x8#4 3#4 [{ quiet with dqI := false }]).Inv :=
  ⟨by constructor <;> decide, by constructor <;> decide, by constructor <;> decide⟩

theorem inv_done : ({ during 0x8#4 10#4 [quiet] with bitcnt := 40#6 } : State).Inv :=
  ⟨by constructor <;> decide, by constructor <;> decide, by constructor <;> decide⟩

theorem witness_EveryTickKeepsInvariant :
    ∃ s t : State, s.Inv ∧ step s = .next t ∧ t ≠ s.nextTick :=
  ⟨_, _, inv_polling, rfl, by decide⟩

theorem witness_RunsNeverStop : ∃ s : State, s.Inv ∧ s.busy = true := ⟨_, inv_done, rfl⟩

/-- A tick that writes each latch. -/
theorem witness_OneLatchPerTick :
    ∀ s ∈ [during 0x2#4 0#4 [quiet], during 0x1#4 2#4 [quiet], during 0x8#4 0#4 [quiet]],
      s.input.rst = false ∧ ∃ t, step s = .next t ∧ t ≠ s.nextTick := by
  simp only [List.forall_mem_cons]
  exact ⟨⟨rfl, _, rfl, by decide⟩, ⟨rfl, _, rfl, by decide⟩, ⟨rfl, _, rfl, by decide⟩, by simp⟩

theorem witness_BusAndSensorAreDisjoint :
    (let s := during 0x4#4 1#4 [quiet]
     (s.busy = false ∨ s.opr ≠ 0x8#4) ∧ s.input.rst = false ∧ ∃ t, step s = .next t) ∧
    (let s := during 0x8#4 0#4 [quiet]
     (s.busy = false ∨ s.opr = 0x8#4) ∧ s.input.rst = false ∧ ∃ t, step s = .next t) :=
  ⟨⟨.inr (by decide), rfl, _, rfl⟩, .inr rfl, rfl, _, rfl⟩

theorem witness_DataLineSampledOnlyByWaitAck :
    let s := bounded 2 { during 0x4#4 2#4 [quiet] with tocnt := 1 }
    s.Inv ∧ (s.busy = true ∧ s.opr = 0x4#4 ∧ s.phase = 2#4 ∧ s.input.rst = false) ∧
      step { s with inputs := { s.input with sdaI := false } :: s.inputs.tail } ≠ step s := by
  refine ⟨inv_polling, ⟨rfl, rfl, rfl, rfl⟩, fun h => ?_⟩
  have := congrArg (fun r => (after r State.reset).err) h
  revert this
  decide

/-- One failure of each code. -/
theorem witness_FailureChangesNothingElse :
    ∀ s ∈ [bounded 2 { during 0x4#4 2#4 [quiet] with tocnt := 1 }, bounded 2 { during 0x8#4 3#4 [quiet] with tocnt := 1 },
           bounded 2 { during 0x8#4 9#4 [quiet] with tocnt := 1 }],
      s.input.rst = false ∧ s.busy = true ∧ ∃ t, step s = .next t ∧ t.err ≠ s.err := by
  simp only [List.forall_mem_cons]
  exact ⟨⟨rfl, rfl, _, rfl, by decide⟩, ⟨rfl, rfl, _, rfl, by decide⟩, ⟨rfl, rfl, _, rfl, by decide⟩, by simp⟩

/-- The acceptance of SENSOR_READ, its phases 8 and 10, and a tick that writes nothing of the reading. -/
theorem witness_WritersOfTheReading :
    (∀ s ∈ [idleWith [asking 0x800#12], during 0x8#4 8#4 [quiet], during 0x8#4 10#4 [quiet], idleWith [quiet]],
      s.input.rst = false ∧ ∃ t, step s = .next t) ∧ decode (idleWith [asking 0x800#12]).input.cmd = .ok .sensorRead := by
  refine ⟨?_, rfl⟩
  simp only [List.forall_mem_cons]
  exact ⟨⟨rfl, _, rfl⟩, ⟨rfl, _, rfl⟩, ⟨rfl, _, rfl⟩, ⟨rfl, _, rfl⟩, by simp⟩

/-- The acceptances of WRITE_BYTE and of SENSOR_READ, the two phases that shift, and a tick that writes neither. -/
theorem witness_WritersOfTheBitCounters :
    (∀ s ∈ [idleWith [asking 0x3FF#12], idleWith [asking 0x800#12], { during 0x3#4 2#4 [quiet] with bitcnt := 1#6 },
            { during 0x8#4 8#4 [quiet] with bitcnt := 39#6 }, during 0x1#4 0#4 [quiet]],
      s.input.rst = false ∧ ∃ t, step s = .next t) ∧
    decode (idleWith [asking 0x3FF#12]).input.cmd = .ok (.writeByte 0xFF#8) := by
  refine ⟨?_, rfl⟩
  simp only [List.forall_mem_cons]
  exact ⟨⟨rfl, _, rfl⟩, ⟨rfl, _, rfl⟩, ⟨rfl, _, rfl⟩, ⟨rfl, _, rfl⟩, ⟨rfl, _, rfl⟩, by simp⟩

/-- Each of the four handoffs. -/
theorem witness_OwnerChangesAtHandoffs :
    ∀ s ∈ [during 0x8#4 0#4 [quiet], { during 0x8#4 2#4 [quiet] with dqOe := true }, during 0x8#4 3#4 [{ quiet with dqI := false }],
           { during 0x8#4 10#4 [quiet] with bitcnt := 40#6 }],
      s.Inv ∧ s.input.rst = false ∧ ∃ t, step s = .next t ∧ t.owner ≠ s.owner := by
  simp only [List.forall_mem_cons]
  exact ⟨⟨inv_taking_line, rfl, _, rfl, by decide⟩, ⟨inv_releasing_line, rfl, _, rfl, by decide⟩, ⟨inv_answered, rfl, _, rfl, by decide⟩,
    ⟨inv_done, rfl, _, rfl, by decide⟩, by simp⟩

/-- V-SR-A's samples. -/
theorem witness_DataBytesArePacksOfEight :
    let bits := slowExchange.bits.map BitPlan.bit
    bits.length = 40 ∧ ({ State.reset with rxsh := 0x2D00170549#40 } : State).rxsh = BitVec.ofNat 40 (pack bits) := by decide

theorem witness_PackInvertsSer8 : [false, true, false, false, true, true, true, false].length = 8 := rfl

theorem witness_LcdUnitCarriesTheByte : unitPayload .command 0x28#8 = [0x2C#8, 0x28#8, 0x8C#8, 0x88#8] := by decide

/-! The host -/

theorem witness_FrameReachesThePeer :
    let bs : List Byte := [0x0C#8]
    let s := bounded 1 (idleWith (List.replicate 68 { quiet with sdaI := false }))
    s.busy = false ∧ s.bitcnt ≤ 40#6 ∧ s.latches = (true, true) ∧ s.cfg.wf = true ∧ NoReset (39 + 29 * bs.length) s ∧
      ∀ k < 39 + 29 * bs.length, (s.inputAt k).sdaI = false := by decide

set_option maxRecDepth 20000 in
theorem witness_LcdUnitReachesThePeer :
    let p := Config.hostParams 1 2
    let s := idleWith (List.replicate 161 { quiet with sdaI := false })
    0 < 1 ∧ s.busy = false ∧ s.bitcnt ≤ 40#6 ∧ s.latches = (true, true) ∧ s.cfg.wf = true ∧
      161 = 155 + 2 * (Config.delayTicks 1 p.tEnShort + Config.delayTicks 1 p.tEnLong) ∧ NoReset 161 s ∧
      ∀ j < 161, (s.inputAt j).sdaI = false := by decide

/-- Program P4. -/
theorem witness_FrameToAbsentPeerIsAbandoned :
    let s := bounded 3 (idleWith (List.replicate 41 quiet))
    s.busy = false ∧ s.bitcnt ≤ 40#6 ∧ s.cfg.ackTimeout = some 3 ∧ 1 ≤ 3 ∧ 3 < 2 ^ s.cfg.tocntW ∧ NoReset 41 s ∧
      ∀ k < 41, (s.inputAt k).sdaI = true := by decide

end Sys2Proof.Tests
end

section
/-! SUPPORT. Acceptance and the waits as rules: the whole next state of an acceptance, and what a wait, a delay, a shift and a phase in progress
leave unchanged. -/

namespace Sys2Proof.Machine

/-- The state after the acceptance of a command (30_encoding.md R95, 40_bus_master.md R128, 41_sensor_engine.md R162). -/
def State.accept (s : State) : Instr → State
  | .start => s.acceptLegal 0x1#4
  | .stop => s.acceptLegal 0x2#4
  | .writeByte arg => { s.acceptLegal 0x3#4 with txsh := arg, bitcnt := 8#6 }
  | .waitAck => s.acceptLegal 0x4#4
  | .sensorRead => { s.acceptLegal 0x8#4 with rxsh := 0#40, rvalid := false, bitcnt := 0#6 }

/-- An idle block accepts every command. -/
theorem exec_of_idle (i : Instr) {s : State} (h : s.busy = false) : exec i s = .next (s.accept i) := by
  cases i <;> simp [exec, execStart, execStop, execWriteByte, execWaitAck, execSensorRead, State.accept, h]

/-- `step_cases` with the acceptance of a command as a state. -/
theorem step_cases_accept {s t : State} (h : step s = .next t) :
    (s.input.rst = true ∧ t = s.resetBlock.nextTick) ∨
    (s.input.rst = false ∧ s.busy = true ∧ ∃ u, runPhase s = .next u ∧ t = u.nextTick) ∨
    (s.input.rst = false ∧ s.busy = false ∧ s.input.cmdValid = true ∧ ∃ i, decode s.input.cmd = .ok i ∧ t = (s.accept i).nextTick) ∨
    (s.input.rst = false ∧ s.busy = false ∧ s.input.cmdValid = true ∧ (∃ e, decode s.input.cmd = .error e) ∧
      t = s.acceptIllegal.nextTick) ∨
    (s.input.rst = false ∧ s.busy = false ∧ s.input.cmdValid = false ∧ t = s.nextTick) := by
  rcases step_cases h with hr | hb | ⟨hr, hb, hv, i, u, hi, hu, ht⟩ | he | hq
  · exact .inl hr
  · exact .inr (.inl hb)
  · rw [exec_of_idle i hb] at hu
    cases hu
    exact .inr (.inr (.inl ⟨hr, hb, hv, i, hi, ht⟩))
  · exact .inr (.inr (.inr (.inl he)))
  · exact .inr (.inr (.inr (.inr hq)))

/-- An unreset tick of a busy block runs a phase. -/
theorem step_of_busy {s : State} (hr : s.input.rst = false) (hb : s.busy = true) : step s = endTick (runPhase s) := by
  simp [step, hr, hb]

section waitWhile
variable (s : State) (l : InLine) (v : Bool) (limit : Option Nat) (code : Err) (nxt : Successor)

/-- A waiting step writes at most the sequencer's own elements and `ERR`. -/
theorem State.waitWhile_writes :
    ∃ b p n e, s.waitWhile l v limit code nxt = { s with busy := b, phase := p, tocnt := n, err := e } := by
  rcases s.waitWhile_cases l v limit code nxt with ⟨_, h⟩ | ⟨_, _, h⟩ | ⟨_, _, h⟩ | ⟨_, _, h⟩
  · cases nxt <;> exact ⟨_, _, _, _, h⟩
  · exact ⟨_, _, _, _, h⟩
  · exact ⟨_, _, _, _, h⟩
  · exact ⟨_, _, _, _, h⟩

@[simp] theorem State.waitWhile_dqOe : (s.waitWhile l v limit code nxt).dqOe = s.dqOe := by
  obtain ⟨_, _, _, _, h⟩ := s.waitWhile_writes l v limit code nxt
  rw [h]
@[simp] theorem State.waitWhile_opr : (s.waitWhile l v limit code nxt).opr = s.opr := by
  obtain ⟨_, _, _, _, h⟩ := s.waitWhile_writes l v limit code nxt
  rw [h]
@[simp] theorem State.waitWhile_bitcnt : (s.waitWhile l v limit code nxt).bitcnt = s.bitcnt := by
  obtain ⟨_, _, _, _, h⟩ := s.waitWhile_writes l v limit code nxt
  rw [h]
@[simp] theorem State.waitWhile_txsh : (s.waitWhile l v limit code nxt).txsh = s.txsh := by
  obtain ⟨_, _, _, _, h⟩ := s.waitWhile_writes l v limit code nxt
  rw [h]
@[simp] theorem State.waitWhile_rxsh : (s.waitWhile l v limit code nxt).rxsh = s.rxsh := by
  obtain ⟨_, _, _, _, h⟩ := s.waitWhile_writes l v limit code nxt
  rw [h]
@[simp] theorem State.waitWhile_rvalid : (s.waitWhile l v limit code nxt).rvalid = s.rvalid := by
  obtain ⟨_, _, _, _, h⟩ := s.waitWhile_writes l v limit code nxt
  rw [h]

end waitWhile

section sensorWait
variable (s : State) (v : Bool) (code : Err) (nxt : Successor)

@[simp] theorem sensorWait_dqOe : (sensorWait s v code nxt).dqOe = s.dqOe := s.waitWhile_dqOe ..
@[simp] theorem sensorWait_opr : (sensorWait s v code nxt).opr = s.opr := s.waitWhile_opr ..
@[simp] theorem sensorWait_bitcnt : (sensorWait s v code nxt).bitcnt = s.bitcnt := s.waitWhile_bitcnt ..
@[simp] theorem sensorWait_txsh : (sensorWait s v code nxt).txsh = s.txsh := s.waitWhile_txsh ..
@[simp] theorem sensorWait_rxsh : (sensorWait s v code nxt).rxsh = s.rxsh := s.waitWhile_rxsh ..
@[simp] theorem sensorWait_rvalid : (sensorWait s v code nxt).rvalid = s.rvalid := s.waitWhile_rvalid ..

end sensorWait

section delay
variable (s : State) (p : BitVec 4)

/-- A delay step writes at most `PHASE` and `TOCNT`. -/
theorem State.delay_writes : ∃ q n, s.delay p = { s with phase := q, tocnt := n } := by
  rcases s.delay_cases p with ⟨_, h⟩ | ⟨_, h⟩
  · exact ⟨_, _, h⟩
  · exact ⟨_, _, h⟩

@[simp] theorem State.delay_dqOe : (s.delay p).dqOe = s.dqOe := by
  obtain ⟨_, _, h⟩ := s.delay_writes p
  rw [h]
@[simp] theorem State.delay_opr : (s.delay p).opr = s.opr := by
  obtain ⟨_, _, h⟩ := s.delay_writes p
  rw [h]
@[simp] theorem State.delay_bitcnt : (s.delay p).bitcnt = s.bitcnt := by
  obtain ⟨_, _, h⟩ := s.delay_writes p
  rw [h]
@[simp] theorem State.delay_txsh : (s.delay p).txsh = s.txsh := by
  obtain ⟨_, _, h⟩ := s.delay_writes p
  rw [h]
@[simp] theorem State.delay_rxsh : (s.delay p).rxsh = s.rxsh := by
  obtain ⟨_, _, h⟩ := s.delay_writes p
  rw [h]
@[simp] theorem State.delay_rvalid : (s.delay p).rvalid = s.rvalid := by
  obtain ⟨_, _, h⟩ := s.delay_writes p
  rw [h]

end delay

section nextTxBit
variable (s : State)

/-- The bookkeeping of WRITE_BYTE phase 2 shifts and counts, and otherwise writes only `BUSY`, `PHASE` and `TOCNT`. -/
theorem nextTxBit_writes :
    ∃ b p n, nextTxBit s = { s with busy := b, phase := p, tocnt := n, txsh := shiftOut s.txsh, bitcnt := s.bitcnt - 1#6 } := by
  rcases nextTxBit_cases s with ⟨_, h⟩ | ⟨_, h⟩
  · exact ⟨_, _, _, h⟩
  · exact ⟨_, _, _, h⟩

@[simp] theorem nextTxBit_opr : (nextTxBit s).opr = s.opr := by
  obtain ⟨_, _, _, h⟩ := nextTxBit_writes s
  rw [h]
@[simp] theorem nextTxBit_bitcnt : (nextTxBit s).bitcnt = s.bitcnt - 1#6 := by
  obtain ⟨_, _, _, h⟩ := nextTxBit_writes s
  rw [h]
@[simp] theorem nextTxBit_txsh : (nextTxBit s).txsh = shiftOut s.txsh := by
  obtain ⟨_, _, _, h⟩ := nextTxBit_writes s
  rw [h]
@[simp] theorem nextTxBit_rxsh : (nextTxBit s).rxsh = s.rxsh := by
  obtain ⟨_, _, _, h⟩ := nextTxBit_writes s
  rw [h]
@[simp] theorem nextTxBit_rvalid : (nextTxBit s).rvalid = s.rvalid := by
  obtain ⟨_, _, _, h⟩ := nextTxBit_writes s
  rw [h]

end nextTxBit

section takeBit
variable (s : State)

@[simp] theorem takeBit_dqOe : (takeBit s).dqOe = s.dqOe := rfl
@[simp] theorem takeBit_opr : (takeBit s).opr = s.opr := rfl
@[simp] theorem takeBit_bitcnt : (takeBit s).bitcnt = s.bitcnt + 1#6 := rfl
@[simp] theorem takeBit_txsh : (takeBit s).txsh = s.txsh := rfl
@[simp] theorem takeBit_rxsh : (takeBit s).rxsh = shiftIn s.rxsh s.input.dqI := rfl
@[simp] theorem takeBit_rvalid : (takeBit s).rvalid = s.rvalid := rfl

end takeBit

/-- SENSOR_READ in progress stays SENSOR_READ. -/
theorem sensorReadPhase_opr {s t : State} (h : sensorReadPhase s = .next t) : t.opr = s.opr := by
  rcases sensorReadPhase_cases h with
    ⟨_, rfl⟩ | ⟨_, rfl⟩ | ⟨_, rfl⟩ | ⟨_, rfl⟩ | ⟨_, rfl⟩ | ⟨_, rfl⟩ | ⟨_, rfl⟩ | ⟨_, rfl⟩ | ⟨_, rfl⟩ | ⟨_, rfl⟩ | ⟨_, rfl⟩ <;>
  simp

/-- Only an acceptance or a reset writes `OPR` (10_state.md R28). -/
theorem runPhase_opr {s t : State} (h : runPhase s = .next t) : t.opr = s.opr := by
  obtain ⟨_, ⟨_, hu⟩ | ⟨_, hu⟩ | ⟨_, hu⟩ | ⟨_, hu⟩ | ⟨_, hu⟩⟩ := runPhase_cases h
  · rcases startPhase_cases hu with ⟨_, rfl⟩ | ⟨_, rfl⟩ | ⟨_, rfl⟩ | ⟨_, rfl⟩ <;> rfl
  · rcases stopPhase_cases hu with ⟨_, rfl⟩ | ⟨_, rfl⟩ | ⟨_, rfl⟩ | ⟨_, rfl⟩ <;> rfl
  · rcases writeBytePhase_cases hu with ⟨_, rfl⟩ | ⟨_, rfl⟩ | ⟨_, rfl⟩ <;> simp
  · rcases waitAckPhase_cases hu with ⟨_, rfl⟩ | ⟨_, rfl⟩ | ⟨_, rfl⟩ <;> simp
  · exact sensorReadPhase_opr hu

end Sys2Proof.Machine
end

section
/-! The writers of the reading and of the bit counters (10_state.md R30 to R33): what one phase does to them, then the tick. -/

namespace Sys2Proof.Machine

/-- START, like STOP and WAIT_ACK below, writes neither the reading nor the bit counters. -/
theorem startPhase_data {s t : State} (h : startPhase s = .next t) :
    t.rxsh = s.rxsh ∧ t.rvalid = s.rvalid ∧ t.bitcnt = s.bitcnt ∧ t.txsh = s.txsh := by
  rcases startPhase_cases h with ⟨_, rfl⟩ | ⟨_, rfl⟩ | ⟨_, rfl⟩ | ⟨_, rfl⟩ <;> exact ⟨rfl, rfl, rfl, rfl⟩

theorem stopPhase_data {s t : State} (h : stopPhase s = .next t) :
    t.rxsh = s.rxsh ∧ t.rvalid = s.rvalid ∧ t.bitcnt = s.bitcnt ∧ t.txsh = s.txsh := by
  rcases stopPhase_cases h with ⟨_, rfl⟩ | ⟨_, rfl⟩ | ⟨_, rfl⟩ | ⟨_, rfl⟩ <;> exact ⟨rfl, rfl, rfl, rfl⟩

theorem waitAckPhase_data {s t : State} (h : waitAckPhase s = .next t) :
    t.rxsh = s.rxsh ∧ t.rvalid = s.rvalid ∧ t.bitcnt = s.bitcnt ∧ t.txsh = s.txsh := by
  rcases waitAckPhase_cases h with ⟨_, rfl⟩ | ⟨_, rfl⟩ | ⟨_, rfl⟩ <;> simp

/-- WRITE_BYTE in progress leaves the reading, and shifts and counts in phase 2 only. -/
theorem writeBytePhase_data {s t : State} (h : writeBytePhase s = .next t) :
    t.rxsh = s.rxsh ∧ t.rvalid = s.rvalid ∧
    ((s.phase = 2#4 ∧ t.bitcnt = s.bitcnt - 1#6 ∧ t.txsh = s.txsh <<< 1) ∨
     (s.phase ≠ 2#4 ∧ t.bitcnt = s.bitcnt ∧ t.txsh = s.txsh)) := by
  rcases writeBytePhase_cases h with ⟨hp, rfl⟩ | ⟨hp, rfl⟩ | ⟨hp, rfl⟩ <;> simp [hp, shiftOut]

/-- SENSOR_READ in progress writes the reading in phases 8 and 10 and `BITCNT` in phase 8. -/
theorem sensorReadPhase_data {s t : State} (h : sensorReadPhase s = .next t) :
    t.txsh = s.txsh ∧
    ((s.phase = 8#4 ∧ t.rxsh = shiftIn s.rxsh s.input.dqI ∧ t.rvalid = s.rvalid ∧ t.bitcnt = s.bitcnt + 1#6) ∨
     (s.phase = 10#4 ∧ t.rxsh = s.rxsh ∧ t.rvalid = true ∧ t.bitcnt = s.bitcnt) ∨
     (s.phase ≠ 8#4 ∧ s.phase ≠ 10#4 ∧ t.rxsh = s.rxsh ∧ t.rvalid = s.rvalid ∧ t.bitcnt = s.bitcnt)) := by
  rcases sensorReadPhase_cases h with
    ⟨hp, rfl⟩ | ⟨hp, rfl⟩ | ⟨hp, rfl⟩ | ⟨hp, rfl⟩ | ⟨hp, rfl⟩ | ⟨hp, rfl⟩ | ⟨hp, rfl⟩ | ⟨hp, rfl⟩ | ⟨hp, rfl⟩ | ⟨hp, rfl⟩ | ⟨hp, rfl⟩ <;>
  simp [hp]

/-- What one phase of the command in progress does to the reading. -/
theorem runPhase_reading {s t : State} (h : runPhase s = .next t) :
    (s.opr = 0x8#4 ∧ s.phase = 8#4 ∧ t.rxsh = shiftIn s.rxsh s.input.dqI ∧ t.rvalid = s.rvalid) ∨
    (s.opr = 0x8#4 ∧ s.phase = 10#4 ∧ t.rxsh = s.rxsh ∧ t.rvalid = true) ∨
    (¬(s.opr = 0x8#4 ∧ (s.phase = 8#4 ∨ s.phase = 10#4)) ∧ t.rxsh = s.rxsh ∧ t.rvalid = s.rvalid) := by
  obtain ⟨_, ⟨ho, hp⟩ | ⟨ho, hp⟩ | ⟨ho, hp⟩ | ⟨ho, hp⟩ | ⟨ho, hp⟩⟩ := runPhase_cases h
  · obtain ⟨hx, hv, _, _⟩ := startPhase_data hp
    exact .inr (.inr ⟨by simp [ho], hx, hv⟩)
  · obtain ⟨hx, hv, _, _⟩ := stopPhase_data hp
    exact .inr (.inr ⟨by simp [ho], hx, hv⟩)
  · obtain ⟨hx, hv, _⟩ := writeBytePhase_data hp
    exact .inr (.inr ⟨by simp [ho], hx, hv⟩)
  · obtain ⟨hx, hv, _, _⟩ := waitAckPhase_data hp
    exact .inr (.inr ⟨by simp [ho], hx, hv⟩)
  · obtain ⟨_, ⟨h8, hx, hv, _⟩ | ⟨h10, hx, hv, _⟩ | ⟨h8, h10, hx, hv, _⟩⟩ := sensorReadPhase_data hp
    · exact .inl ⟨ho, h8, hx, hv⟩
    · exact .inr (.inl ⟨ho, h10, hx, hv⟩)
    · exact .inr (.inr ⟨by simp [h8, h10], hx, hv⟩)

/-- What one phase of the command in progress does to the bit counters. -/
theorem runPhase_bitCounters {s t : State} (h : runPhase s = .next t) :
    (s.opr = 0x3#4 ∧ s.phase = 2#4 ∧ t.bitcnt = s.bitcnt - 1#6 ∧ t.txsh = s.txsh <<< 1) ∨
    (s.opr = 0x8#4 ∧ s.phase = 8#4 ∧ t.bitcnt = s.bitcnt + 1#6 ∧ t.txsh = s.txsh) ∨
    (¬(s.opr = 0x3#4 ∧ s.phase = 2#4) ∧ ¬(s.opr = 0x8#4 ∧ s.phase = 8#4) ∧ t.bitcnt = s.bitcnt ∧ t.txsh = s.txsh) := by
  obtain ⟨_, ⟨ho, hp⟩ | ⟨ho, hp⟩ | ⟨ho, hp⟩ | ⟨ho, hp⟩ | ⟨ho, hp⟩⟩ := runPhase_cases h
  · obtain ⟨_, _, hb, hx⟩ := startPhase_data hp
    exact .inr (.inr ⟨by simp [ho], by simp [ho], hb, hx⟩)
  · obtain ⟨_, _, hb, hx⟩ := stopPhase_data hp
    exact .inr (.inr ⟨by simp [ho], by simp [ho], hb, hx⟩)
  · obtain ⟨_, _, ⟨h2, hb, hx⟩ | ⟨h2, hb, hx⟩⟩ := writeBytePhase_data hp
    · exact .inl ⟨ho, h2, hb, hx⟩
    · exact .inr (.inr ⟨by simp [h2], by simp [ho], hb, hx⟩)
  · obtain ⟨_, _, hb, hx⟩ := waitAckPhase_data hp
    exact .inr (.inr ⟨by simp [ho], by simp [ho], hb, hx⟩)
  · obtain ⟨hx, ⟨h8, _, _, hb⟩ | ⟨h10, _, _, hb⟩ | ⟨h8, _, _, _, hb⟩⟩ := sensorReadPhase_data hp
    · exact .inr (.inl ⟨ho, h8, hb, hx⟩)
    · exact .inr (.inr ⟨by simp [ho], by simp [h10], hb, hx⟩)
    · exact .inr (.inr ⟨by simp [ho], by simp [h8], hb, hx⟩)

/-- Only the acceptance of SENSOR_READ writes the reading. -/
theorem State.accept_reading (s : State) {i : Instr} (h : i ≠ .sensorRead) : (s.accept i).rxsh = s.rxsh ∧ (s.accept i).rvalid = s.rvalid := by
  cases i with
  | sensorRead => exact absurd rfl h
  | _ => exact ⟨rfl, rfl⟩

/-- Only the acceptances of WRITE_BYTE and of SENSOR_READ write the bit counters. -/
theorem State.accept_bitCounters (s : State) {i : Instr} (hw : ∀ v, i ≠ .writeByte v) (hr : i ≠ .sensorRead) :
    (s.accept i).bitcnt = s.bitcnt ∧ (s.accept i).txsh = s.txsh := by
  cases i with
  | sensorRead => exact absurd rfl hr
  | writeByte v => exact absurd rfl (hw v)
  | _ => exact ⟨rfl, rfl⟩

/-- Settles O43: a busy tick by `runPhase_reading`, an acceptance by `State.accept_reading`. -/
theorem writersOfTheReading : Obligations.WritersOfTheReading := by
  intro s t hr h
  rcases step_cases_accept h with ⟨hr', _⟩ | ⟨_, hb, u, hu, rfl⟩ | ⟨_, hb, hv, i, hi, rfl⟩ | ⟨_, hb, _, ⟨e, he⟩, rfl⟩ | ⟨_, hb, hv, rfl⟩
  · simp [hr] at hr'
  · rcases runPhase_reading hu with ⟨ho, hp, hx, hrv⟩ | ⟨ho, hp, hx, hrv⟩ | ⟨hn, hx, hrv⟩
    · simp [hb, ho, hp, hx, hrv]
    · simp [hb, ho, hp, hx, hrv]
    · exact ⟨by simp [hb], fun _ ho hp => absurd ⟨ho, .inl hp⟩ hn, fun _ ho hp => absurd ⟨ho, .inr hp⟩ hn, fun _ _ => ⟨hx, hrv⟩⟩
  · refine ⟨fun _ _ hd => ?_, by simp [hb], by simp [hb], fun hn _ => s.accept_reading ?_⟩
    · obtain rfl : i = .sensorRead := by simpa [hi] using hd
      exact ⟨rfl, rfl⟩
    · rintro rfl
      exact hn ⟨hb, hv, hi⟩
  · simp [hb, he]
  · simp [hb, hv]

/-- Settles O44: a busy tick by `runPhase_bitCounters`, an acceptance by `State.accept_bitCounters`. -/
theorem writersOfTheBitCounters : Obligations.WritersOfTheBitCounters := by
  intro s t hr h
  rcases step_cases_accept h with ⟨hr', _⟩ | ⟨_, hb, u, hu, rfl⟩ | ⟨_, hb, hv, i, hi, rfl⟩ | ⟨_, hb, _, ⟨e, he⟩, rfl⟩ | ⟨_, hb, hv, rfl⟩
  · simp [hr] at hr'
  · rcases runPhase_bitCounters hu with ⟨ho, hp, hc, hx⟩ | ⟨ho, hp, hc, hx⟩ | ⟨hw, hs, hc, hx⟩
    · simp [hb, ho, hp, hc, hx]
    · simp [hb, ho, hp, hc, hx]
    · exact ⟨by simp [hb], by simp [hb], fun _ ho hp => absurd ⟨ho, hp⟩ hw, fun _ ho hp => absurd ⟨ho, hp⟩ hs, fun _ _ _ => ⟨hc, hx⟩⟩
  · refine ⟨fun v _ _ hd => ?_, fun _ _ hd => ?_, by simp [hb], by simp [hb], fun hn _ _ => s.accept_bitCounters ?_ ?_⟩
    · obtain rfl : i = .writeByte v := by simpa [hi] using hd
      exact ⟨rfl, rfl⟩
    · obtain rfl : i = .sensorRead := by simpa [hi] using hd
      exact ⟨rfl, rfl⟩
    · rintro v rfl
      exact hn ⟨hb, hv, .inl ⟨v, hi⟩⟩
    · rintro rfl
      exact hn ⟨hb, hv, .inr hi⟩
  · simp [hb, he]
  · simp [hb, hv]

/-- Settles O10: the table of R38 and the outputs of R23 at reset, each by evaluation. -/
theorem resetValuesOfElementsAndPorts : Obligations.ResetValuesOfElementsAndPorts :=
  ⟨⟨rfl, rfl, rfl, rfl, rfl, rfl, rfl, rfl, rfl, rfl, rfl, rfl⟩, rfl⟩

/-- Settles O46: on natural numbers the 8-bit sum is the sum mod 256. -/
theorem chkokIsChecksumModulo256 : Obligations.ChkokIsChecksumModulo256 := by
  intro s
  have sum_toNat : (s.data 0 + s.data 1 + s.data 2 + s.data 3).toNat =
      ((s.data 0).toNat + (s.data 1).toNat + (s.data 2).toNat + (s.data 3).toNat) % 256 := by
    simp only [BitVec.toNat_add]
    omega
  rw [← sum_toNat, BitVec.toNat_inj]
  simp [State.chkok]

end Sys2Proof.Machine
end

section
/-! SUPPORT. The invariant of 10_state.md R39 said once for each command: the idle block and each command in progress have an invariant of their own, and the
machine's is the disjunction of the six (`State.inv_iff`). -/

namespace Sys2Proof.Machine

/-- What the invariant says of an idle block. -/
structure State.IdleInv (s : State) : Prop where
  cfg_wf    : s.cfg.wf = true
  busy      : s.busy = false
  phase     : s.phase = 0#4
  tocnt     : s.tocnt = 0
  dqOe      : s.dqOe = false
  bitcnt_le : s.bitcnt ≤ 40#6
  opr_legal : s.opr = 0x0#4 ∨ s.opr = 0x1#4 ∨ s.opr = 0x2#4 ∨ s.opr = 0x3#4 ∨ s.opr = 0x4#4 ∨ s.opr = 0x8#4

/-- What the invariant says of every command in progress. -/
structure State.InProgress (s : State) (op : OpField) : Prop where
  cfg_wf    : s.cfg.wf = true
  busy      : s.busy = true
  opr       : s.opr = op
  named     : phaseNamed op s.phase = true
  err       : s.err = .none
  bitcnt_le : s.bitcnt ≤ 40#6

/-- START in progress. -/
structure State.StartInv (s : State) : Prop where
  progress : s.InProgress 0x1#4
  dqOe     : s.dqOe = false
  tocnt    : s.tocnt = 0
  data     : s.phase = 1#4 → s.sdaOut = true
  marker   : s.phase = 2#4 → s.sclOut = true ∧ s.sdaOut = true
  ending   : s.phase = 3#4 → s.sclOut = true ∧ s.sdaOut = false

/-- STOP in progress. -/
structure State.StopInv (s : State) : Prop where
  progress : s.InProgress 0x2#4
  dqOe     : s.dqOe = false
  tocnt    : s.tocnt = 0
  clock    : s.phase = 1#4 → s.sclOut = false
  data     : s.phase = 2#4 → s.sclOut = false ∧ s.sdaOut = false
  marker   : s.phase = 3#4 → s.sclOut = true ∧ s.sdaOut = false

/-- WRITE_BYTE in progress. -/
structure State.WriteInv (s : State) : Prop where
  progress : s.InProgress 0x3#4
  dqOe     : s.dqOe = false
  tocnt    : s.tocnt = 0
  one_le   : 1#6 ≤ s.bitcnt
  le_eight : s.bitcnt ≤ 8#6
  tx_low   : s.txsh.toNat % 2 ^ (8 - s.bitcnt.toNat) = 0
  clock    : s.phase = 1#4 ∨ s.phase = 2#4 → s.sclOut = false

/-- WAIT_ACK in progress. -/
structure State.AckInv (s : State) : Prop where
  progress : s.InProgress 0x4#4
  dqOe     : s.dqOe = false
  count    : s.countInRange = true
  data     : s.phase = 1#4 → s.sdaOut = true
  poll     : s.phase = 2#4 → s.sclOut = true ∧ s.sdaOut = true

/-- SENSOR_READ in progress. -/
structure State.SensorInv (s : State) : Prop where
  progress : s.InProgress 0x8#4
  rvalid   : s.rvalid = false
  dqOe_iff : s.dqOe = true ↔ s.phase = 1#4 ∨ s.phase = 2#4
  count    : s.countInRange = true
  rx_high  : s.rxsh.toNat < 2 ^ s.bitcnt.toNat
  rx_first : s.phase ≤ 5#4 → s.bitcnt = 0#6
  rx_room  : s.bitcnt = 40#6 → s.phase = 9#4 ∨ s.phase = 10#4
  rx_done  : s.phase = 10#4 → s.bitcnt = 40#6

/-! ### The count of polls -/

/-- `TOCNT` against the limit of the wait it counts (R36). -/
def countBelow (limit : Option Nat) (count : Nat) : Prop :=
  match limit with
  | none => count = 0
  | some n => count < n

theorem State.countInRange_iff (s : State) : s.countInRange = true ↔ countBelow s.waitLimit s.tocnt := by
  unfold State.countInRange countBelow
  cases s.waitLimit <;> simp

/-- START, STOP and WRITE_BYTE wait for nothing. -/
theorem State.waitLimit_of_no_wait {s : State} (h4 : s.opr ≠ 0x4#4) (h8 : s.opr ≠ 0x8#4) : s.waitLimit = none := by
  simp [State.waitLimit, h4, h8]

/-- A parameter that fits is never 0. -/
theorem countBelow_zero {w : Nat} {limit : Option Nat} (h : timeoutFits w limit = true) : countBelow limit 0 := by
  cases limit with
  | none => rfl
  | some n =>
    have : 1 ≤ n ∧ n < 2 ^ w := by simpa [timeoutFits] using h
    exact this.1

theorem Params.timeouts_fit {p : Params} (h : p.wf = true) :
    timeoutFits p.tocntW p.ackTimeout = true ∧ timeoutFits p.tocntW p.sensorTimeout = true := by
  simpa [Params.wf] using h

/-- A wait's limit is one of the two parameters, or there is none. -/
theorem State.waitLimit_fits {s : State} (h : s.cfg.wf = true) : timeoutFits s.cfg.tocntW s.waitLimit = true := by
  obtain ⟨hack, hsensor⟩ := Params.timeouts_fit h
  unfold State.waitLimit
  split
  · exact hack
  · split
    · exact hsensor
    · rfl

/-- A count that starts again is in range in every phase. -/
theorem State.countInRange_of_zero {s : State} (hcfg : s.cfg.wf = true) (h : s.tocnt = 0) : s.countInRange = true := by
  rw [s.countInRange_iff, h]
  exact countBelow_zero (State.waitLimit_fits hcfg)

/-- A poll that is not the last leaves the count below the limit, and no bit of it is lost (R12). -/
theorem State.countPoll_countInRange {s : State} {n : Nat} (hcfg : s.cfg.wf = true) (hl : s.waitLimit = some n) (hn : s.tocnt + 1 < n) :
    s.countPoll.countInRange = true := by
  have fits : 1 ≤ n ∧ n < 2 ^ s.cfg.tocntW := by
    have := State.waitLimit_fits hcfg
    simpa [hl, timeoutFits] using this
  have keep : (s.tocnt + 1) % 2 ^ s.cfg.tocntW = s.tocnt + 1 := Nat.mod_eq_of_lt (by omega)
  have limit : s.countPoll.waitLimit = some n := hl
  rw [State.countInRange_iff, limit, State.countPoll_tocnt, keep]
  exact hn

/-! ### The six invariants and the machine's -/

/-- The phases the micro-programs name, by command (R29). -/
theorem phaseNamed_cases {op : OpField} {p : BitVec 4} (h : phaseNamed op p = true) :
    (op = 0x1#4 ∧ p ≤ 3#4) ∨ (op = 0x2#4 ∧ p ≤ 3#4) ∨ (op = 0x3#4 ∧ p ≤ 2#4) ∨ (op = 0x4#4 ∧ p ≤ 2#4) ∨ (op = 0x8#4 ∧ p ≤ 10#4) := by
  unfold phaseNamed at h
  split_ifs at h <;> simp_all

theorem State.InProgress.opr_legal {s : State} {op : OpField} (h : s.InProgress op) :
    s.opr = 0x0#4 ∨ s.opr = 0x1#4 ∨ s.opr = 0x2#4 ∨ s.opr = 0x3#4 ∨ s.opr = 0x4#4 ∨ s.opr = 0x8#4 := by
  rw [h.opr]
  rcases phaseNamed_cases h.named with ⟨ho, _⟩ | ⟨ho, _⟩ | ⟨ho, _⟩ | ⟨ho, _⟩ | ⟨ho, _⟩ <;> simp [ho]

theorem State.IdleInv.inv {s : State} (h : s.IdleInv) : s.Inv := by
  obtain ⟨hcfg, hbusy, hphase, htocnt, hdq, hbits, hopr⟩ := h
  have hcount := State.countInRange_of_zero hcfg htocnt
  exact ⟨by constructor <;> simp [*], by constructor <;> simp [hbusy], by constructor <;> simp [hbusy]⟩

/-- The part of the invariant on the sequencer, from what differs between the commands. -/
theorem State.InProgress.sequencerInv {s : State} {op : OpField} (h : s.InProgress op)
    (dqOe_iff : s.dqOe = true ↔ op = 0x8#4 ∧ (s.phase = 1#4 ∨ s.phase = 2#4))
    (rvalid : op = 0x8#4 → s.rvalid = false)
    (tx_count : op = 0x3#4 → 1#6 ≤ s.bitcnt ∧ s.bitcnt ≤ 8#6)
    (rx_count : op = 0x8#4 → s.bitcnt = 40#6 → s.phase = 9#4 ∨ s.phase = 10#4)
    (count : s.countInRange = true) : s.SequencerInv where
  cfg_wf := h.cfg_wf
  idle := by simp [h.busy]
  dqOe_iff := by simp [h.busy, h.opr, dqOe_iff]
  named := fun _ => h.opr ▸ h.named
  rvalid_done := by
    rintro hv ⟨_, ho⟩
    simp [rvalid (h.opr ▸ ho)] at hv
  tx_count := fun _ ho => tx_count (h.opr ▸ ho)
  rx_count := fun _ ho => rx_count (h.opr ▸ ho)
  bitcnt_le := h.bitcnt_le
  busy_err := fun _ => h.err
  opr_legal := h.opr_legal
  count := count

theorem State.StartInv.inv {s : State} (h : s.StartInv) : s.Inv := by
  obtain ⟨hp, hdq, htocnt, hdata, hmarker, hending⟩ := h
  have hopr := hp.opr
  exact ⟨hp.sequencerInv (by simp [hdq]) (by simp) (by simp) (by simp) (State.countInRange_of_zero hp.cfg_wf htocnt),
    by constructor <;> simp [hopr], by constructor <;> simp_all⟩

theorem State.StopInv.inv {s : State} (h : s.StopInv) : s.Inv := by
  obtain ⟨hp, hdq, htocnt, hclock, hdata, hmarker⟩ := h
  have hopr := hp.opr
  exact ⟨hp.sequencerInv (by simp [hdq]) (by simp) (by simp) (by simp) (State.countInRange_of_zero hp.cfg_wf htocnt),
    by constructor <;> simp [hopr], by constructor <;> simp_all⟩

theorem State.WriteInv.inv {s : State} (h : s.WriteInv) : s.Inv := by
  obtain ⟨hp, hdq, htocnt, hone, height, hlow, hclock⟩ := h
  have hopr := hp.opr
  exact ⟨hp.sequencerInv (by simp [hdq]) (by simp) (fun _ => ⟨hone, height⟩) (by simp) (State.countInRange_of_zero hp.cfg_wf htocnt),
    by constructor <;> simp_all, by constructor <;> simp_all⟩

theorem State.AckInv.inv {s : State} (h : s.AckInv) : s.Inv := by
  obtain ⟨hp, hdq, hcount, hdata, hpoll⟩ := h
  have hopr := hp.opr
  exact ⟨hp.sequencerInv (by simp [hdq]) (by simp) (by simp) (by simp) hcount,
    by constructor <;> simp [hopr], by constructor <;> simp_all⟩

theorem State.SensorInv.inv {s : State} (h : s.SensorInv) : s.Inv := by
  obtain ⟨hp, hrvalid, hdq, hcount, hhigh, hfirst, hroom, hdone⟩ := h
  have hopr := hp.opr
  exact ⟨hp.sequencerInv (by simp [hdq]) (fun _ => hrvalid) (by simp) (fun _ => hroom) hcount,
    by constructor <;> simp_all, by constructor <;> simp [hopr]⟩

theorem State.Inv.idleInv {s : State} (h : s.Inv) (hb : s.busy = false) : s.IdleInv where
  cfg_wf := h.sequencer.cfg_wf
  busy := hb
  phase := (h.sequencer.idle hb).1
  tocnt := (h.sequencer.idle hb).2
  dqOe := by simpa [hb] using h.sequencer.dqOe_iff
  bitcnt_le := h.sequencer.bitcnt_le
  opr_legal := h.sequencer.opr_legal

theorem State.Inv.inProgress {s : State} (h : s.Inv) (hb : s.busy = true) {op : OpField} (ho : s.opr = op) : s.InProgress op where
  cfg_wf := h.sequencer.cfg_wf
  busy := hb
  opr := ho
  named := ho ▸ h.sequencer.named hb
  err := h.sequencer.busy_err hb
  bitcnt_le := h.sequencer.bitcnt_le

/-- Only SENSOR_READ drives the sensor line (20_memory.md R77). -/
theorem State.Inv.dqOe_of_not_sensor {s : State} (h : s.Inv) (ho : s.opr ≠ 0x8#4) : s.dqOe = false := by
  simpa [ho] using h.sequencer.dqOe_iff

/-- A command that waits for nothing has no poll counted. -/
theorem State.Inv.tocnt_of_no_wait {s : State} (h : s.Inv) (h4 : s.opr ≠ 0x4#4) (h8 : s.opr ≠ 0x8#4) : s.tocnt = 0 := by
  have := s.countInRange_iff.1 h.sequencer.count
  rwa [State.waitLimit_of_no_wait h4 h8] at this

theorem State.Inv.startInv {s : State} (h : s.Inv) (hb : s.busy = true) (ho : s.opr = 0x1#4) : s.StartInv where
  progress := h.inProgress hb ho
  dqOe := h.dqOe_of_not_sensor (by simp [ho])
  tocnt := h.tocnt_of_no_wait (by simp [ho]) (by simp [ho])
  data := h.line.start_data hb ho
  marker := h.line.start_marker hb ho
  ending := h.line.start_end hb ho

theorem State.Inv.stopInv {s : State} (h : s.Inv) (hb : s.busy = true) (ho : s.opr = 0x2#4) : s.StopInv where
  progress := h.inProgress hb ho
  dqOe := h.dqOe_of_not_sensor (by simp [ho])
  tocnt := h.tocnt_of_no_wait (by simp [ho]) (by simp [ho])
  clock := h.line.stop_clock hb ho
  data := h.line.stop_data hb ho
  marker := h.line.stop_marker hb ho

theorem State.Inv.writeInv {s : State} (h : s.Inv) (hb : s.busy = true) (ho : s.opr = 0x3#4) : s.WriteInv where
  progress := h.inProgress hb ho
  dqOe := h.dqOe_of_not_sensor (by simp [ho])
  tocnt := h.tocnt_of_no_wait (by simp [ho]) (by simp [ho])
  one_le := (h.sequencer.tx_count hb ho).1
  le_eight := (h.sequencer.tx_count hb ho).2
  tx_low := h.shift.tx_low hb ho
  clock := h.line.write_low hb ho

theorem State.Inv.ackInv {s : State} (h : s.Inv) (hb : s.busy = true) (ho : s.opr = 0x4#4) : s.AckInv where
  progress := h.inProgress hb ho
  dqOe := h.dqOe_of_not_sensor (by simp [ho])
  count := h.sequencer.count
  data := h.line.ack_release hb ho
  poll := h.line.ack_poll hb ho

theorem State.Inv.sensorInv {s : State} (h : s.Inv) (hb : s.busy = true) (ho : s.opr = 0x8#4) : s.SensorInv where
  progress := h.inProgress hb ho
  rvalid := by
    have := h.sequencer.rvalid_done
    simpa [hb, ho] using this
  dqOe_iff := by simpa [hb, ho] using h.sequencer.dqOe_iff
  count := h.sequencer.count
  rx_high := h.shift.rx_high hb ho
  rx_first := h.shift.rx_first hb ho
  rx_room := h.sequencer.rx_count hb ho
  rx_done := h.shift.rx_done hb ho

/-- The invariant holds exactly when the block is idle, or one of the five commands is in progress, with the invariant of that case. -/
theorem State.inv_iff (s : State) :
    s.Inv ↔ s.IdleInv ∨ s.StartInv ∨ s.StopInv ∨ s.WriteInv ∨ s.AckInv ∨ s.SensorInv := by
  constructor
  · intro h
    cases hb : s.busy with
    | false => exact .inl (h.idleInv hb)
    | true =>
      rcases phaseNamed_cases (h.sequencer.named hb) with ⟨ho, _⟩ | ⟨ho, _⟩ | ⟨ho, _⟩ | ⟨ho, _⟩ | ⟨ho, _⟩
      · exact .inr (.inl (h.startInv hb ho))
      · exact .inr (.inr (.inl (h.stopInv hb ho)))
      · exact .inr (.inr (.inr (.inl (h.writeInv hb ho))))
      · exact .inr (.inr (.inr (.inr (.inl (h.ackInv hb ho)))))
      · exact .inr (.inr (.inr (.inr (.inr (h.sensorInv hb ho)))))
  · rintro (h | h | h | h | h | h)
    · exact h.inv
    · exact h.inv
    · exact h.inv
    · exact h.inv
    · exact h.inv
    · exact h.inv

/-- The end of a tick keeps the invariant, which speaks of no input and of no tick count. -/
theorem State.Inv.nextTick {s : State} (h : s.Inv) : s.nextTick.Inv := by
  obtain ⟨⟨_, _, _, _, _, _, _, _, _, _, _⟩, ⟨_, _, _, _⟩, ⟨_, _, _, _, _, _, _, _, _⟩⟩ := h
  exact ⟨by constructor <;> assumption, by constructor <;> assumption, by constructor <;> assumption⟩

end Sys2Proof.Machine
end

section
/-! SUPPORT. What keeps the invariant: each shared operation, each command's phases, acceptance and reset. -/

namespace Sys2Proof.Machine

/-! ### The shared operations -/

section InProgress
variable {s : State} {op : OpField} (h : s.InProgress op)
include h

theorem State.InProgress.drive (l : OutLine) (b : Bool) : (s.drive l b).InProgress op := by
  obtain ⟨hcfg, hbusy, hopr, hnamed, herr, hbits⟩ := h
  cases l <;> exact ⟨hcfg, hbusy, hopr, hnamed, herr, hbits⟩

theorem State.InProgress.setPhase {p : BitVec 4} (hp : phaseNamed op p = true) : (s.setPhase p).InProgress op :=
  ⟨h.cfg_wf, h.busy, h.opr, hp, h.err, h.bitcnt_le⟩

/-- A command that has left the sensor line ends in an idle block (30_encoding.md R99). -/
theorem State.InProgress.complete_inv (hdq : s.dqOe = false) : s.complete.Inv :=
  State.IdleInv.inv ⟨h.cfg_wf, rfl, rfl, rfl, hdq, h.bitcnt_le, h.opr_legal⟩

/-- So does one that fails (60_exceptions.md R246). -/
theorem State.InProgress.fail_inv (hdq : s.dqOe = false) (code : Err) : (s.fail code).Inv :=
  State.IdleInv.inv ⟨h.cfg_wf, rfl, rfl, rfl, hdq, h.bitcnt_le, h.opr_legal⟩

end InProgress

/-- A poll counted changes `TOCNT` alone. -/
theorem State.Inv.countPoll {s : State} (h : s.Inv) {n : Nat} (hb : s.busy = true) (hl : s.waitLimit = some n) (hn : s.tocnt + 1 < n) :
    s.countPoll.Inv := by
  have hcount := State.countPoll_countInRange h.sequencer.cfg_wf hl hn
  have hidle : s.countPoll.busy = false → s.countPoll.phase = 0#4 ∧ s.countPoll.tocnt = 0 := by simp [hb]
  obtain ⟨⟨_, _, _, _, _, _, _, _, _, _, _⟩, ⟨_, _, _, _⟩, ⟨_, _, _, _, _, _, _, _, _⟩⟩ := h
  exact ⟨by constructor <;> assumption, by constructor <;> assumption, by constructor <;> assumption⟩

/-- A wait with the limit the sequencer counts keeps the invariant if its successor has it. -/
theorem State.Inv.waitWhile {s : State} (h : s.Inv) (hb : s.busy = true) (hdq : s.dqOe = false) {limit : Option Nat}
    (hlimit : s.waitLimit = limit) (l : InLine) (v : Bool) (code : Err) {nxt : Successor} (hnext : (s.moveOn nxt).Inv) :
    (s.waitWhile l v limit code nxt).Inv := by
  rcases s.waitWhile_cases l v limit code nxt with ⟨_, e⟩ | ⟨_, _, e⟩ | ⟨_, _, e⟩ | ⟨_, ⟨n, hl, hn⟩, e⟩
  · rwa [e]
  · rwa [e]
  · rw [e]
    exact (h.inProgress hb rfl).fail_inv hdq code
  · rw [e]
    exact h.countPoll hb (hlimit.trans hl) hn

/-- A delay keeps the invariant if its successor has it. -/
theorem State.Inv.delay {s : State} (h : s.Inv) {p : BitVec 4} (hnext : (s.setPhase p).Inv) : (s.delay p).Inv := by
  rcases s.delay_cases p with ⟨_, e⟩ | ⟨_, e⟩
  · rwa [e]
  · rwa [e]

/-! ### The bus commands -/

theorem startPhase_inv {s t : State} (h : s.StartInv) (ht : startPhase s = .next t) : t.Inv := by
  obtain ⟨hp, hdq, htocnt, hdata, hmarker, hending⟩ := h
  rcases startPhase_cases ht with ⟨e, rfl⟩ | ⟨e, rfl⟩ | ⟨e, rfl⟩ | ⟨e, rfl⟩
  · exact State.StartInv.inv ⟨(hp.drive _ _).setPhase rfl, hdq, rfl, by simp, by simp, by simp⟩
  · exact State.StartInv.inv ⟨(hp.drive _ _).setPhase rfl, hdq, rfl, by simp, by simp [hdata e], by simp⟩
  · exact State.StartInv.inv ⟨(hp.drive _ _).setPhase rfl, hdq, rfl, by simp, by simp, by simp [hmarker e]⟩
  · exact (hp.drive _ _).complete_inv hdq

theorem stopPhase_inv {s t : State} (h : s.StopInv) (ht : stopPhase s = .next t) : t.Inv := by
  obtain ⟨hp, hdq, htocnt, hclock, hdata, hmarker⟩ := h
  rcases stopPhase_cases ht with ⟨e, rfl⟩ | ⟨e, rfl⟩ | ⟨e, rfl⟩ | ⟨e, rfl⟩
  · exact State.StopInv.inv ⟨(hp.drive _ _).setPhase rfl, hdq, rfl, by simp, by simp, by simp⟩
  · exact State.StopInv.inv ⟨(hp.drive _ _).setPhase rfl, hdq, rfl, by simp, by simp [hclock e], by simp⟩
  · exact State.StopInv.inv ⟨(hp.drive _ _).setPhase rfl, hdq, rfl, by simp, by simp, by simp [hdata e]⟩
  · exact (hp.drive _ _).complete_inv hdq

/-- Counting `BITCNT` down from above 0. -/
theorem bitcnt_pred_toNat {b : BitVec 6} (h : 1#6 ≤ b) : (b - 1#6).toNat = b.toNat - 1 := by
  bv_omega

/-- The shift of WRITE_BYTE brings in one more 0 at the low end (40_bus_master.md R132). -/
theorem shiftOut_low_zero {v : Byte} {k : Nat} (hk : k < 8) (h : v.toNat % 2 ^ k = 0) : (shiftOut v).toNat % 2 ^ (k + 1) = 0 := by
  have double : 2 ^ (k + 1) ∣ 2 * v.toNat := by
    rw [Nat.pow_succ']
    exact Nat.mul_dvd_mul_left 2 (Nat.dvd_of_mod_eq_zero h)
  have byte : 2 ^ (k + 1) ∣ 2 ^ 8 := Nat.pow_dvd_pow 2 (by omega)
  have value : (shiftOut v).toNat = 2 * v.toNat % 2 ^ 8 := by
    simp [shiftOut, BitVec.toNat_shiftLeft, Nat.shiftLeft_eq, Nat.mul_comm]
  rw [value]
  exact Nat.mod_eq_zero_of_dvd ((Nat.dvd_mod_iff byte).2 double)

/-- One shift counts `BITCNT` down and leaves one more place of `TXSH` empty. -/
theorem shiftTx_tx_low {s : State} (hone : 1#6 ≤ s.bitcnt) (height : s.bitcnt ≤ 8#6) (hlow : s.txsh.toNat % 2 ^ (8 - s.bitcnt.toNat) = 0) :
    (shiftTx s).txsh.toNat % 2 ^ (8 - (shiftTx s).bitcnt.toNat) = 0 := by
  have h1 : 1 ≤ s.bitcnt.toNat := hone
  have h8 : s.bitcnt.toNat ≤ 8 := height
  have places : 8 - (shiftTx s).bitcnt.toNat = (8 - s.bitcnt.toNat) + 1 := by
    simp only [shiftTx, bitcnt_pred_toNat hone]
    omega
  rw [places]
  exact shiftOut_low_zero (by omega) hlow

/-- The bookkeeping of phase 2 keeps the invariant whatever the clock latch holds. -/
theorem nextTxBit_inv {s : State} (hp : s.InProgress 0x3#4) (hdq : s.dqOe = false) (hone : 1#6 ≤ s.bitcnt) (height : s.bitcnt ≤ 8#6)
    (hlow : s.txsh.toNat % 2 ^ (8 - s.bitcnt.toNat) = 0) : (nextTxBit s).Inv := by
  have hle : s.bitcnt - 1#6 ≤ 8#6 := by bv_omega
  have hshift : (shiftTx s).InProgress 0x3#4 := ⟨hp.cfg_wf, hp.busy, hp.opr, hp.named, hp.err, BitVec.le_trans hle (by decide)⟩
  rcases nextTxBit_cases s with ⟨_, e⟩ | ⟨hne, e⟩
  · rw [e]
    exact hshift.complete_inv hdq
  · rw [e]
    have hone' : 1#6 ≤ s.bitcnt - 1#6 := by bv_omega
    exact State.WriteInv.inv ⟨hshift.setPhase rfl, hdq, rfl, hone', hle, shiftTx_tx_low hone height hlow, by simp⟩

theorem writeBytePhase_inv {s t : State} (h : s.WriteInv) (ht : writeBytePhase s = .next t) : t.Inv := by
  obtain ⟨hp, hdq, htocnt, hone, height, hlow, hclock⟩ := h
  rcases writeBytePhase_cases ht with ⟨e, rfl⟩ | ⟨e, rfl⟩ | ⟨e, rfl⟩
  · exact State.WriteInv.inv ⟨(hp.drive _ _).setPhase rfl, hdq, rfl, hone, height, hlow, by simp⟩
  · exact State.WriteInv.inv ⟨(hp.drive _ _).setPhase rfl, hdq, rfl, hone, height, hlow, by simp [hclock (.inl e)]⟩
  · exact nextTxBit_inv (hp.drive _ _) hdq hone height hlow

theorem waitAckPhase_inv {s t : State} (h : s.AckInv) (ht : waitAckPhase s = .next t) : t.Inv := by
  have hinv := h.inv
  obtain ⟨hp, hdq, hcount, hdata, hpoll⟩ := h
  have hzero (u : State) (p : BitVec 4) (hu : u.InProgress 0x4#4) : (u.setPhase p).countInRange = true :=
    State.countInRange_of_zero hu.cfg_wf rfl
  rcases waitAckPhase_cases ht with ⟨e, rfl⟩ | ⟨e, rfl⟩ | ⟨e, rfl⟩
  · exact State.AckInv.inv ⟨(hp.drive _ _).setPhase rfl, hdq, hzero _ _ (hp.drive _ _), by simp, by simp⟩
  · exact State.AckInv.inv ⟨(hp.drive _ _).setPhase rfl, hdq, hzero _ _ (hp.drive _ _), by simp, by simp [hdata e]⟩
  · exact hinv.waitWhile hp.busy hdq (by simp [State.waitLimit, hp.busy, hp.opr, e]) _ _ _ (hp.complete_inv hdq)

/-! ### SENSOR_READ -/

/-- The limit in the polling phases of SENSOR_READ. -/
theorem State.InProgress.sensor_waitLimit {s : State} (h : s.InProgress 0x8#4) (hp : sensorPolls s.phase = true) :
    s.waitLimit = s.cfg.sensorTimeout := by
  simp [State.waitLimit, h.busy, h.opr, hp]

/-- The sample taken adds one place to `RXSH` (41_sensor_engine.md R171). -/
theorem takeBit_rx_high {s : State} (hroom : s.bitcnt < 40#6) (h : s.rxsh.toNat < 2 ^ s.bitcnt.toNat) :
    (takeBit s).rxsh.toNat < 2 ^ (takeBit s).bitcnt.toNat := by
  have hbit : s.input.dqI.toNat ≤ 1 := Bool.toNat_le _
  have hcount : (takeBit s).bitcnt.toNat = s.bitcnt.toNat + 1 := by
    simp only [takeBit_bitcnt]
    bv_omega
  rw [hcount, takeBit_rxsh, shiftIn_toNat, Nat.pow_succ]
  exact lt_of_le_of_lt (Nat.mod_le _ _) (by omega)

/-- Moving on to another phase of SENSOR_READ. -/
theorem State.InProgress.setPhase_sensor_inv {s : State} (h : s.InProgress 0x8#4) (hv : s.rvalid = false)
    (hx : s.rxsh.toNat < 2 ^ s.bitcnt.toNat) {p : BitVec 4} (hp : phaseNamed 0x8#4 p = true)
    (hdq : s.dqOe = true ↔ p = 1#4 ∨ p = 2#4) (hfirst : p ≤ 5#4 → s.bitcnt = 0#6)
    (hroom : s.bitcnt = 40#6 → p = 9#4 ∨ p = 10#4) (hdone : p = 10#4 → s.bitcnt = 40#6) : (s.setPhase p).Inv :=
  State.SensorInv.inv ⟨h.setPhase hp, hv, hdq, State.countInRange_of_zero h.cfg_wf rfl, hx, hfirst, hroom, hdone⟩

/-- A wait of SENSOR_READ keeps the invariant if its successor has it. -/
theorem State.SensorInv.sensorWait_inv {s : State} (h : s.SensorInv) (hp : sensorPolls s.phase = true) (v : Bool) (code : Err)
    {nxt : Successor} (hnext : (s.moveOn nxt).Inv) : (sensorWait s v code nxt).Inv := by
  have hdq : s.dqOe = false := by
    rw [Bool.eq_false_iff, ne_eq, h.dqOe_iff]
    rintro (e | e) <;> simp [e, sensorPolls] at hp
  exact h.inv.waitWhile h.progress.busy hdq (h.progress.sensor_waitLimit hp) _ _ _ hnext

/-- Phases 0 to 2: the block takes the line, holds it low, and releases it (41_sensor_engine.md R163 to R165). -/
theorem sensorRequest_inv {s t : State} (h : s.SensorInv)
    (ht : (s.phase = 0#4 ∧ t = s.driveLow.setPhase 1#4) ∨ (s.phase = 1#4 ∧ t = s.delay 2#4) ∨
      (s.phase = 2#4 ∧ t = s.release.setPhase 3#4)) : t.Inv := by
  have hinv := h.inv
  obtain ⟨hp, hv, hdq, hcount, hx, hfirst, hroom, hdone⟩ := h
  rcases ht with ⟨e, rfl⟩ | ⟨e, rfl⟩ | ⟨e, rfl⟩
  all_goals have h0 : s.bitcnt = 0#6 := hfirst (by simp [e])
  · have hlow : s.driveLow.InProgress 0x8#4 := ⟨hp.cfg_wf, hp.busy, hp.opr, hp.named, hp.err, hp.bitcnt_le⟩
    exact hlow.setPhase_sensor_inv hv hx rfl (by simp) (fun _ => h0) (by simp [h0]) (by simp)
  · exact hinv.delay (hp.setPhase_sensor_inv hv hx rfl (by simp [hdq, e]) (fun _ => h0) (by simp [h0]) (by simp))
  · have hfree : s.release.InProgress 0x8#4 := ⟨hp.cfg_wf, hp.busy, hp.opr, hp.named, hp.err, hp.bitcnt_le⟩
    exact hfree.setPhase_sensor_inv hv hx rfl (by simp) (fun _ => h0) (by simp [h0]) (by simp)

/-- Phases 3 to 5: the sensor's answer and its handshake (R166 to R168). -/
theorem sensorHandshake_inv {s t : State} (h : s.SensorInv)
    (ht : (s.phase = 3#4 ∧ t = sensorWait s true .sensorHandshakeTimeout (.phase 4#4)) ∨
      (s.phase = 4#4 ∧ t = sensorWait s false .sensorHandshakeTimeout (.phase 5#4)) ∨
      (s.phase = 5#4 ∧ t = sensorWait s true .sensorHandshakeTimeout (.phase 6#4))) : t.Inv := by
  have hwait := @h.sensorWait_inv
  obtain ⟨hp, hv, hdq, hcount, hx, hfirst, hroom, hdone⟩ := h
  rcases ht with ⟨e, rfl⟩ | ⟨e, rfl⟩ | ⟨e, rfl⟩
  all_goals
    have h0 : s.bitcnt = 0#6 := hfirst (by simp [e])
    exact hwait (by simp [e, sensorPolls]) _ _
      (hp.setPhase_sensor_inv hv hx rfl (by simp [hdq, e]) (fun _ => h0) (by simp [h0]) (by simp))

/-- Phases 6 to 9: one bit of the reading (R169 to R172). -/
theorem sensorBit_inv {s t : State} (h : s.SensorInv)
    (ht : (s.phase = 6#4 ∧ t = sensorWait s false .sensorBitTimeout (.phase 7#4)) ∨
      (s.phase = 7#4 ∧ t = s.delay 8#4) ∨ (s.phase = 8#4 ∧ t = (takeBit s).setPhase 9#4) ∨
      (s.phase = 9#4 ∧ t = sensorWait s true .sensorBitTimeout (afterBit s))) : t.Inv := by
  have hinv := h.inv
  have hwait := @h.sensorWait_inv
  obtain ⟨hp, hv, hdq, hcount, hx, hfirst, hroom, hdone⟩ := h
  rcases ht with ⟨e, rfl⟩ | ⟨e, rfl⟩ | ⟨e, rfl⟩ | ⟨e, rfl⟩
  · have hne : s.bitcnt ≠ 40#6 := by simpa [e] using hroom
    exact hwait (by simp [e, sensorPolls]) _ _
      (hp.setPhase_sensor_inv hv hx rfl (by simp [hdq, e]) (by simp) (by simp [hne]) (by simp))
  · have hne : s.bitcnt ≠ 40#6 := by simpa [e] using hroom
    exact hinv.delay (hp.setPhase_sensor_inv hv hx rfl (by simp [hdq, e]) (by simp) (by simp [hne]) (by simp))
  · have hlt : s.bitcnt < 40#6 := BitVec.lt_of_le_ne hp.bitcnt_le (by simpa [e] using hroom)
    have htake : (takeBit s).InProgress 0x8#4 :=
      ⟨hp.cfg_wf, hp.busy, hp.opr, hp.named, hp.err, by simp only [takeBit_bitcnt]; bv_omega⟩
    exact htake.setPhase_sensor_inv hv (takeBit_rx_high hlt hx) rfl (by simp [hdq, e]) (by simp) (by simp) (by simp)
  · refine hwait (by simp [e, sensorPolls]) _ _ ?_
    rcases afterBit_cases s with ⟨h40, e'⟩ | ⟨hne, e'⟩
    · rw [e', State.moveOn_phase]
      exact hp.setPhase_sensor_inv hv hx rfl (by simp [hdq, e]) (by simp) (by simp) (fun _ => h40)
    · rw [e', State.moveOn_phase]
      exact hp.setPhase_sensor_inv hv hx rfl (by simp [hdq, e]) (by simp) (by simp [hne]) (by simp)

/-- Phase 10: the reading is complete (R173). -/
theorem sensorDone_inv {s : State} (h : s.SensorInv) (e : s.phase = 10#4) : ({ s with rvalid := true } : State).complete.Inv := by
  have hp := h.progress
  have hdq : s.dqOe = false := by simpa [e] using h.dqOe_iff
  exact State.IdleInv.inv ⟨hp.cfg_wf, rfl, rfl, rfl, hdq, hp.bitcnt_le, hp.opr_legal⟩

theorem sensorReadPhase_inv {s t : State} (h : s.SensorInv) (ht : sensorReadPhase s = .next t) : t.Inv := by
  rcases sensorReadPhase_cases ht with h0 | h1 | h2 | h3 | h4 | h5 | h6 | h7 | h8 | h9 | ⟨e, rfl⟩
  · exact sensorRequest_inv h (.inl h0)
  · exact sensorRequest_inv h (.inr (.inl h1))
  · exact sensorRequest_inv h (.inr (.inr h2))
  · exact sensorHandshake_inv h (.inl h3)
  · exact sensorHandshake_inv h (.inr (.inl h4))
  · exact sensorHandshake_inv h (.inr (.inr h5))
  · exact sensorBit_inv h (.inl h6)
  · exact sensorBit_inv h (.inr (.inl h7))
  · exact sensorBit_inv h (.inr (.inr (.inl h8)))
  · exact sensorBit_inv h (.inr (.inr (.inr h9)))
  · exact sensorDone_inv h e

/-! ### Acceptance, reset, and the whole tick -/

theorem runPhase_inv {s t : State} (h : s.Inv) (hb : s.busy = true) (ht : runPhase s = .next t) : t.Inv := by
  obtain ⟨_, ⟨ho, hu⟩ | ⟨ho, hu⟩ | ⟨ho, hu⟩ | ⟨ho, hu⟩ | ⟨ho, hu⟩⟩ := runPhase_cases ht
  · exact startPhase_inv (h.startInv hb ho) hu
  · exact stopPhase_inv (h.stopInv hb ho) hu
  · exact writeBytePhase_inv (h.writeInv hb ho) hu
  · exact waitAckPhase_inv (h.ackInv hb ho) hu
  · exact sensorReadPhase_inv (h.sensorInv hb ho) hu

/-- Every legal acceptance puts the command in progress at its phase 0 (30_encoding.md R95). -/
theorem State.IdleInv.acceptLegal {s : State} (h : s.IdleInv) {op : OpField} (hop : phaseNamed op 0#4 = true) :
    (s.acceptLegal op).InProgress op :=
  ⟨h.cfg_wf, rfl, rfl, hop, rfl, h.bitcnt_le⟩

theorem State.IdleInv.accept_inv {s : State} (h : s.IdleInv) (i : Instr) : (s.accept i).Inv := by
  have hcount (u : State) (hc : u.cfg = s.cfg) (hu : u.tocnt = 0) : u.countInRange = true :=
    State.countInRange_of_zero (hc ▸ h.cfg_wf) hu
  cases i with
  | start => exact State.StartInv.inv ⟨h.acceptLegal rfl, h.dqOe, rfl, by simp [State.accept], by simp [State.accept], by simp [State.accept]⟩
  | stop => exact State.StopInv.inv ⟨h.acceptLegal rfl, h.dqOe, rfl, by simp [State.accept], by simp [State.accept], by simp [State.accept]⟩
  | writeByte v =>
    exact State.WriteInv.inv ⟨⟨h.cfg_wf, rfl, rfl, rfl, rfl, by simp [State.accept]⟩, h.dqOe, rfl, by simp [State.accept],
      by simp [State.accept], by simp [State.accept, Nat.mod_one], by simp [State.accept]⟩
  | waitAck => exact State.AckInv.inv ⟨h.acceptLegal rfl, h.dqOe, hcount _ rfl rfl, by simp [State.accept], by simp [State.accept]⟩
  | sensorRead =>
    exact State.SensorInv.inv ⟨⟨h.cfg_wf, rfl, rfl, rfl, rfl, by simp [State.accept]⟩, rfl, by simp [State.accept, h.dqOe], hcount _ rfl rfl,
      by simp [State.accept], by simp [State.accept], by simp [State.accept], by simp [State.accept]⟩

theorem State.IdleInv.acceptIllegal_inv {s : State} (h : s.IdleInv) : s.acceptIllegal.Inv :=
  State.IdleInv.inv ⟨h.cfg_wf, h.busy, h.phase, h.tocnt, h.dqOe, h.bitcnt_le, h.opr_legal⟩

theorem State.resetBlock_inv {s : State} (h : s.cfg.wf = true) : s.resetBlock.Inv :=
  State.IdleInv.inv ⟨h, rfl, rfl, rfl, rfl, by simp, by simp⟩

/-- Settles O36: the reset state is idle. -/
theorem invariantHoldsAtReset : Obligations.InvariantHoldsAtReset :=
  State.resetBlock_inv (s := State.reset) rfl

/-- Settles O37, by the kind of tick (`step_cases_accept`) and by the command in progress. -/
theorem everyTickKeepsInvariant : Obligations.EveryTickKeepsInvariant := by
  intro s t h ht
  rcases step_cases_accept ht with ⟨_, rfl⟩ | ⟨_, hb, u, hu, rfl⟩ | ⟨_, hb, _, i, _, rfl⟩ | ⟨_, hb, _, _, rfl⟩ | ⟨_, hb, _, rfl⟩
  · exact (State.resetBlock_inv h.sequencer.cfg_wf).nextTick
  · exact (runPhase_inv h hb hu).nextTick
  · exact ((h.idleInv hb).accept_inv i).nextTick
  · exact (h.idleInv hb).acceptIllegal_inv.nextTick
  · exact h.nextTick

end Sys2Proof.Machine
end

section
/-! No run stops (30_encoding.md R98, 60_exceptions.md R252): a busy tick in a named phase with `BITCNT` in range answers a next state. -/

namespace Sys2Proof.Machine

theorem phase_le_two {p : BitVec 4} (h : p ≤ 2#4) : p = 0#4 ∨ p = 1#4 ∨ p = 2#4 := by
  revert p
  decide

theorem phase_le_three {p : BitVec 4} (h : p ≤ 3#4) : p = 0#4 ∨ p = 1#4 ∨ p = 2#4 ∨ p = 3#4 := by
  revert p
  decide

theorem phase_le_ten {p : BitVec 4} (h : p ≤ 10#4) :
    p = 0#4 ∨ p = 1#4 ∨ p = 2#4 ∨ p = 3#4 ∨ p = 4#4 ∨ p = 5#4 ∨ p = 6#4 ∨ p = 7#4 ∨ p = 8#4 ∨ p = 9#4 ∨ p = 10#4 := by
  revert p
  decide

theorem startPhase_progress {s : State} (h : s.phase ≤ 3#4) : ∃ t, startPhase s = .next t := by
  rcases phase_le_three h with e | e | e | e <;> simp [startPhase, e]

theorem stopPhase_progress {s : State} (h : s.phase ≤ 3#4) : ∃ t, stopPhase s = .next t := by
  rcases phase_le_three h with e | e | e | e <;> simp [stopPhase, e]

theorem writeBytePhase_progress {s : State} (h : s.phase ≤ 2#4) : ∃ t, writeBytePhase s = .next t := by
  rcases phase_le_two h with e | e | e <;> simp [writeBytePhase, e]

theorem waitAckPhase_progress {s : State} (h : s.phase ≤ 2#4) : ∃ t, waitAckPhase s = .next t := by
  rcases phase_le_two h with e | e | e <;> simp [waitAckPhase, e]

theorem sensorReadPhase_progress {s : State} (h : s.phase ≤ 10#4) : ∃ t, sensorReadPhase s = .next t := by
  rcases phase_le_ten h with e | e | e | e | e | e | e | e | e | e | e <;> simp [sensorReadPhase, e]

/-- The two refusals of a busy tick are the only ones (log entry 8). -/
theorem runPhase_progress {s : State} (hbits : s.bitcnt ≤ 40#6) (hnamed : phaseNamed s.opr s.phase = true) : ∃ t, runPhase s = .next t := by
  have hlt : ¬40#6 < s.bitcnt := BitVec.not_lt.2 hbits
  rcases phaseNamed_cases hnamed with ⟨ho, hp⟩ | ⟨ho, hp⟩ | ⟨ho, hp⟩ | ⟨ho, hp⟩ | ⟨ho, hp⟩
  · simpa [runPhase, hlt, ho] using startPhase_progress hp
  · simpa [runPhase, hlt, ho] using stopPhase_progress hp
  · simpa [runPhase, hlt, ho] using writeBytePhase_progress hp
  · simpa [runPhase, hlt, ho] using waitAckPhase_progress hp
  · simpa [runPhase, hlt, ho] using sensorReadPhase_progress hp

/-- A tick stops at no state whose busy phase is named and whose `BITCNT` is in range, whatever its inputs are. -/
theorem step_progress {s : State} (hbits : s.bitcnt ≤ 40#6) (hnamed : s.busy = true → phaseNamed s.opr s.phase = true) :
    ∃ t, step s = .next t := by
  unfold step
  split
  · exact ⟨_, rfl⟩
  · split
    · next hb =>
      obtain ⟨t, ht⟩ := runPhase_progress hbits (hnamed hb)
      exact ⟨t.nextTick, by rw [ht, endTick_next]⟩
    · next hb =>
      split
      · split
        · next i _ => exact ⟨(s.accept i).nextTick, by rw [exec_of_idle i (Bool.eq_false_iff.2 hb), endTick_next]⟩
        · exact ⟨_, rfl⟩
      · exact ⟨_, rfl⟩

/-- Settles O38, by induction on the number of ticks with the invariant. -/
theorem runsNeverStop : Obligations.RunsNeverStop := by
  intro s n h
  induction n generalizing s with
  | zero => exact ⟨s, run_zero s, h⟩
  | succ n ih =>
    obtain ⟨t, ht⟩ := step_progress h.sequencer.bitcnt_le h.sequencer.named
    rw [run_succ_of_next n ht]
    exact ih t (everyTickKeepsInvariant s t h ht)

end Sys2Proof.Machine
end

section
/-! The owner of the sensor line (10_state.md R26): what it is in each state with the invariant, and which ticks change it. -/

namespace Sys2Proof.Machine

@[simp] theorem State.nextTick_owner (s : State) : s.nextTick.owner = s.owner := rfl

/-- The owner of the line while SENSOR_READ is in progress, a function of the phase alone. -/
def phaseOwner (p : BitVec 4) : Owner :=
  if p = 1#4 ∨ p = 2#4 then .heldLowByDriver else if 4#4 ≤ p then .drivenBySensor else .released

theorem State.SensorInv.owner_eq {s : State} (h : s.SensorInv) : s.owner = phaseOwner s.phase := by
  have hle : s.phase.toNat ≤ 10 := by simpa [phaseNamed, BitVec.le_def] using h.progress.named
  by_cases hreq : s.phase = 1#4 ∨ s.phase = 2#4
  · simp [phaseOwner, hreq, State.owner, h.dqOe_iff.2 hreq]
  · have hdq : s.dqOe = false := by simpa [hreq] using h.dqOe_iff
    simp [phaseOwner, hreq, State.owner, hdq, h.progress.busy, h.progress.opr, BitVec.le_def, hle]

/-- Unless SENSOR_READ is in progress nobody drives the line. -/
theorem State.Inv.owner_released {s : State} (h : s.Inv) (hs : ¬(s.busy = true ∧ s.opr = 0x8#4)) : s.owner = .released := by
  have hdq : s.dqOe = false := by
    rw [Bool.eq_false_iff, ne_eq, h.sequencer.dqOe_iff]
    exact fun ⟨hb, ho, _⟩ => hs ⟨hb, ho⟩
  have hnot : (s.busy && s.opr == 0x8#4) = false := by simpa using hs
  simp [State.owner, hdq, hnot]

/-- Once SENSOR_READ is the command last accepted the phase says who owns the line, in progress or ended. -/
theorem State.Inv.owner_eq {s : State} (h : s.Inv) (ho : s.opr = 0x8#4) : s.owner = phaseOwner s.phase := by
  cases hb : s.busy with
  | false =>
    rw [h.owner_released (by simp [hb]), (h.idleInv hb).phase]
    rfl
  | true => exact (h.sensorInv hb ho).owner_eq

/-- SENSOR_READ in progress was in progress a tick before, or has just been accepted and is at its phase 0. -/
theorem step_to_sensor {s t : State} (h : step s = .next t) (hb : t.busy = true) (ho : t.opr = 0x8#4) :
    (s.busy = true ∧ s.opr = 0x8#4) ∨ t.phase = 0#4 := by
  rcases step_cases_accept h with ⟨_, rfl⟩ | ⟨_, hb', u, hu, rfl⟩ | ⟨_, _, _, i, _, rfl⟩ | ⟨_, hb', _, _, rfl⟩ | ⟨_, hb', _, rfl⟩
  · simp at hb
  · exact .inl ⟨hb', (runPhase_opr hu).symm.trans ho⟩
  · exact .inr (by cases i <;> rfl)
  · simp [hb'] at hb
  · simp [hb'] at hb

/-- An unreset tick while SENSOR_READ is in progress is one of its phases. -/
theorem step_of_sensor {s t : State} (hr : s.input.rst = false) (hb : s.busy = true) (ho : s.opr = 0x8#4) (h : step s = .next t) :
    ∃ u, sensorReadPhase s = .next u ∧ t = u.nextTick := by
  rw [step_of_busy hr hb] at h
  obtain ⟨u, hu, rfl⟩ := endTick_eq_next h
  obtain ⟨_, ⟨ho', _⟩ | ⟨ho', _⟩ | ⟨ho', _⟩ | ⟨ho', _⟩ | ⟨_, hs⟩⟩ := runPhase_cases hu
  · simp [ho] at ho'
  · simp [ho] at ho'
  · simp [ho] at ho'
  · simp [ho] at ho'
  · exact ⟨u, hs, rfl⟩

/-- A wait stays in its phase, ends the command by a failure, or moves on when the sample differs from the level waited on. -/
theorem sensorWait_phase_cases (s : State) (v : Bool) (code : Err) (p : BitVec 4) :
    (sensorWait s v code (.phase p)).phase = s.phase ∨ (sensorWait s v code (.phase p)).busy = false ∨
    (s.input.dqI ≠ v ∧ (sensorWait s v code (.phase p)).phase = p) := by
  unfold sensorWait
  rcases s.waitWhile_cases .dq v s.cfg.sensorTimeout code (.phase p) with ⟨hv, e⟩ | ⟨_, _, e⟩ | ⟨_, _, e⟩ | ⟨_, _, e⟩
  · exact .inr (.inr ⟨hv, by rw [e, State.moveOn_phase, State.setPhase_phase]⟩)
  · exact .inl (by rw [e])
  · exact .inr (.inl (by rw [e, State.fail_busy]))
  · exact .inl (by rw [e, State.countPoll_phase])

/-- A wait between two phases of the same owner ends the command by a failure or leaves the owner. -/
theorem sensorWait_phaseOwner {s : State} {p q : BitVec 4} (hq : s.phase = q) (hfree : phaseOwner q ≠ .heldLowByDriver)
    (h : phaseOwner p = phaseOwner q) (v : Bool) (code : Err) :
    (phaseOwner s.phase ≠ .heldLowByDriver ∧ (sensorWait s v code (.phase p)).busy = false) ∨
    phaseOwner (sensorWait s v code (.phase p)).phase = phaseOwner s.phase := by
  subst hq
  rcases sensorWait_phase_cases s v code p with e | e | ⟨_, e⟩
  · exact .inr (by rw [e])
  · exact .inl ⟨hfree, e⟩
  · exact .inr (by rw [e, h])

/-- A delay between two phases of the same owner leaves the owner. -/
theorem State.delay_phaseOwner {s : State} {p q : BitVec 4} (hq : s.phase = q) (h : phaseOwner p = phaseOwner q) :
    phaseOwner (s.delay p).phase = phaseOwner s.phase := by
  subst hq
  rcases s.delay_cases p with ⟨_, e⟩ | ⟨_, e⟩
  · rw [e, State.setPhase_phase, h]
  · rw [e]

/-- A tick of SENSOR_READ is one of the three handoffs, or ends the command when the block no longer holds the line, or leaves the owner of
the phase. -/
theorem sensorReadPhase_handoff {s t : State} (h : sensorReadPhase s = .next t) :
    (s.phase = 0#4 ∧ t.phase = 1#4) ∨ (s.phase = 2#4 ∧ t.phase = 3#4) ∨ (s.phase = 3#4 ∧ s.input.dqI = false ∧ t.phase = 4#4) ∨
    (phaseOwner s.phase ≠ .heldLowByDriver ∧ t.busy = false) ∨ phaseOwner t.phase = phaseOwner s.phase := by
  rcases sensorReadPhase_cases h with
    ⟨hp, rfl⟩ | ⟨hp, rfl⟩ | ⟨hp, rfl⟩ | ⟨hp, rfl⟩ | ⟨hp, rfl⟩ | ⟨hp, rfl⟩ | ⟨hp, rfl⟩ | ⟨hp, rfl⟩ | ⟨hp, rfl⟩ | ⟨hp, rfl⟩ | ⟨hp, rfl⟩
  · exact .inl ⟨hp, rfl⟩
  · exact .inr (.inr (.inr (.inr (State.delay_phaseOwner hp (by decide)))))
  · exact .inr (.inl ⟨hp, rfl⟩)
  · rcases sensorWait_phase_cases s true .sensorHandshakeTimeout 4#4 with e | e | ⟨hv, e⟩
    · exact .inr (.inr (.inr (.inr (by rw [e]))))
    · exact .inr (.inr (.inr (.inl ⟨by rw [hp]; decide, e⟩)))
    · exact .inr (.inr (.inl ⟨hp, by simpa using hv, e⟩))
  · exact .inr (.inr (.inr (sensorWait_phaseOwner hp (by decide) (by decide) _ _)))
  · exact .inr (.inr (.inr (sensorWait_phaseOwner hp (by decide) (by decide) _ _)))
  · exact .inr (.inr (.inr (sensorWait_phaseOwner hp (by decide) (by decide) _ _)))
  · exact .inr (.inr (.inr (.inr (State.delay_phaseOwner hp (by decide)))))
  · exact .inr (.inr (.inr (.inr (by rw [hp]; rfl))))
  · rcases afterBit_cases s with ⟨_, e⟩ | ⟨_, e⟩
    · rw [e]
      exact .inr (.inr (.inr (sensorWait_phaseOwner hp (by decide) (by decide) _ _)))
    · rw [e]
      exact .inr (.inr (.inr (sensorWait_phaseOwner hp (by decide) (by decide) _ _)))
  · exact .inr (.inr (.inr (.inl ⟨by rw [hp]; decide, rfl⟩)))

/-- A tick that SENSOR_READ is not in progress before leaves the line free. -/
theorem step_owner_released {s t : State} (h : s.Inv) (ht : step s = .next t) (hs : ¬(s.busy = true ∧ s.opr = 0x8#4)) :
    t.owner = .released := by
  have hti : t.Inv := everyTickKeepsInvariant s t h ht
  by_cases htSensor : t.busy = true ∧ t.opr = 0x8#4
  · obtain ⟨hb, ho⟩ := htSensor
    have h0 : t.phase = 0#4 := (step_to_sensor ht hb ho).resolve_left hs
    rw [hti.owner_eq ho, h0]
    rfl
  · exact hti.owner_released htSensor

/-- Settles O45: outside SENSOR_READ the line is free before and after the tick (`step_owner_released`); inside, the owner is the phase's, and
`sensorReadPhase_handoff` names the ticks that change it. -/
theorem ownerChangesAtHandoffs : Obligations.OwnerChangesAtHandoffs := by
  intro s t h hr ht hne
  by_cases hs : s.busy = true ∧ s.opr = 0x8#4
  · obtain ⟨hb, ho⟩ := hs
    refine ⟨hb, ho, ?_⟩
    have hti : t.Inv := everyTickKeepsInvariant s t h ht
    obtain ⟨u, hu, rfl⟩ := step_of_sensor hr hb ho ht
    have before : s.owner = phaseOwner s.phase := h.owner_eq ho
    have after : u.nextTick.owner = phaseOwner u.phase := hti.owner_eq ((sensorReadPhase_opr hu).trans ho)
    rcases sensorReadPhase_handoff hu with ⟨hp, hq⟩ | ⟨hp, hq⟩ | ⟨hp, hdq, hq⟩ | ⟨hfree, hub⟩ | hsame
    · exact .inl ⟨hp, by rw [before, hp]; rfl, by rw [after, hq]; rfl⟩
    · exact .inr (.inl ⟨hp, by rw [before, hp]; rfl, by rw [after, hq]; rfl⟩)
    · exact .inr (.inr (.inl ⟨hp, hdq, by rw [before, hp]; rfl, by rw [after, hq]; rfl⟩))
    · have ended : u.nextTick.owner = .released := hti.owner_released (by simp [hub])
      have wasSensor : s.owner = .drivenBySensor := by
        rw [← before] at hfree
        rw [ended] at hne
        cases e : s.owner with
        | heldLowByDriver => exact absurd e hfree
        | released => exact absurd e.symm hne
        | drivenBySensor => rfl
      exact .inr (.inr (.inr ⟨hub, wasSensor, ended⟩))
    · exact absurd (after.trans (hsame.trans before.symm)) hne
  · exact absurd ((step_owner_released h ht hs).trans (h.owner_released hs).symm) hne

end Sys2Proof.Machine
end

section
/-! `Pack` bit by bit (20_memory.md R69, R71): the pack of `n` bits is the `n`-bit word whose bit `n - 1 - k` is the `k`-th. -/

namespace Sys2Proof.Machine

/-- The `j`-th bit of a pack, counted from its least significant end, is the `j`-th of the list from its back. -/
theorem testBit_pack (bits : List Bool) (j : Nat) : (pack bits).testBit j = (bits.reverse[j]?).getD false := by
  induction bits using List.reverseRecOn generalizing j with
  | nil => simp [pack]
  | append_singleton l b ih =>
    rw [pack_append_singleton, List.reverse_append, List.reverse_singleton, List.singleton_append]
    cases j with
    | zero => cases b <;> simp [Nat.testBit_zero]
    | succ j =>
      have half : (2 * pack l + b.toNat) / 2 = pack l := by
        have := b.toNat_lt
        omega
      rw [Nat.testBit_succ, half, ih, List.getElem?_cons_succ]

/-- A word of `n` bits is the pack of the `n` bits it holds, most significant first. -/
theorem ofNat_pack_eq_iff {n : Nat} {bits : List Bool} (hlen : bits.length = n) (v : BitVec n) :
    BitVec.ofNat n (pack bits) = v ↔ ∀ k < n, bits[k]? = some (v.getLsbD (n - 1 - k)) := by
  have bit_of_pack : ∀ k < n, bits[k]? = some ((BitVec.ofNat n (pack bits)).getLsbD (n - 1 - k)) := by
    intro k hk
    have hback : n - 1 - k < bits.length := by omega
    have hfront : bits.length - 1 - (n - 1 - k) = k := by omega
    rw [BitVec.getLsbD_ofNat, testBit_pack, List.getElem?_reverse hback, hfront, List.getElem?_eq_getElem (hlen ▸ hk)]
    simp [show n - 1 - k < n by omega]
  constructor
  · rintro rfl
    exact bit_of_pack
  · intro h
    apply BitVec.eq_of_getLsbD_eq
    intro j hj
    have same := (bit_of_pack (n - 1 - j) (by omega)).symm.trans (h (n - 1 - j) (by omega))
    rwa [Nat.sub_sub_self (by omega), Option.some_inj] at same

/-- The `k`-th bit of `Ser8(v)` is bit `7 - k` of `v`. -/
theorem getElem?_ser8 (v : Byte) {k : Nat} (hk : k < 8) : (ser8 v)[k]? = some (v.getLsbD (7 - k)) := by
  interval_cases k <;> rfl

/-- Settles O48: both ways `ofNat_pack_eq_iff` compares the bits one by one. -/
theorem packInvertsSer8 : Obligations.PackInvertsSer8 := by
  refine ⟨fun v => (ofNat_pack_eq_iff (bits := ser8 v) rfl v).2 fun k hk => getElem?_ser8 v hk, fun bits hlen => List.ext_getElem? fun k => ?_⟩
  by_cases hk : k < 8
  · rw [getElem?_ser8 _ hk, (ofNat_pack_eq_iff hlen _).1 rfl k hk]
  · rw [List.getElem?_eq_none (by simpa [ser8] using hk), List.getElem?_eq_none (by omega)]

/-- Bit `j` of `DATA[i]` is bit `32 - 8*i + j` of `RXSH` (10_state.md R32). -/
theorem State.data_getLsbD (s : State) (i : Fin 5) {j : Nat} (hj : j < 8) :
    (s.data i).getLsbD j = s.rxsh.getLsbD (32 - 8 * i.val + j) := by
  simp [State.data, hj]

/-- Settles O47: the bits of RXSH by `ofNat_pack_eq_iff`, and with them the bits of each byte. -/
theorem dataBytesArePacksOfEight : Obligations.DataBytesArePacksOfEight := by
  intro s bits hlen hrx
  have bit_of_rxsh : ∀ k < 40, bits[k]? = some (s.rxsh.getLsbD (39 - k)) := (ofNat_pack_eq_iff hlen s.rxsh).1 hrx.symm
  refine ⟨fun i => ?_, bit_of_rxsh⟩
  have group_length : ((bits.drop (8 * i.val)).take 8).length = 8 := by
    rw [List.length_take, List.length_drop]
    omega
  symm
  rw [ofNat_pack_eq_iff group_length]
  intro k hk
  have place : 39 - (8 * i.val + k) = 32 - 8 * i.val + (7 - k) := by omega
  rw [List.getElem?_take_of_lt hk, List.getElem?_drop, bit_of_rxsh _ (by omega), place, s.data_getLsbD i (by omega)]

end Sys2Proof.Machine
end

section
/-! The delays (20_memory.md R68) that are never answered (60_exceptions.md R248). -/

namespace Sys2Proof.Machine

/-- A run on which every tick leaves the block's elements as they are ends in the state it began in, with its ticks used up. -/
theorem run_eq_skipTicks {n : Nat} {s : State} (h : ∀ k < n, step (s.skipTicks k) = .next (s.skipTicks k).nextTick) :
    run n s = .next (s.skipTicks n) := by
  induction n generalizing s with
  | zero => rfl
  | succ n ih =>
    have rest : ∀ k < n, step (s.nextTick.skipTicks k) = .next (s.nextTick.skipTicks k).nextTick := by
      intro k hk
      simpa [State.nextTick_eq_skipTicks, Nat.add_comm] using h (k + 1) (by omega)
    have first : step s = .next s.nextTick := h 0 (by omega)
    rw [run_succ_of_next n first, ih rest, State.nextTick_eq_skipTicks, State.skipTicks_skipTicks, Nat.add_comm]

/-- The phases of SENSOR_READ that run a delay. -/
theorem sensorReadPhase_of_delay {s : State} (hp : s.phase = 1#4 ∨ s.phase = 7#4) : ∃ p, sensorReadPhase s = .next (s.delay p) := by
  rcases hp with hp | hp
  · exact ⟨2#4, by simp [sensorReadPhase, hp]⟩
  · exact ⟨8#4, by simp [sensorReadPhase, hp]⟩

/-- With `BITCNT` in range the command in progress runs its own micro-program (30_encoding.md R98). -/
theorem runPhase_of_waitAck {s : State} (ho : s.opr = 0x4#4) (hbits : s.bitcnt ≤ 40#6) : runPhase s = waitAckPhase s := by
  simp [runPhase, ho, BitVec.not_lt.2 hbits]

theorem runPhase_of_sensor {s : State} (ho : s.opr = 0x8#4) (hbits : s.bitcnt ≤ 40#6) : runPhase s = sensorReadPhase s := by
  simp [runPhase, ho, BitVec.not_lt.2 hbits]

/-- A tick of a delay that the primitive does not answer changes no element. -/
theorem step_of_unansweredDelay {s : State} (hb : s.busy = true) (ho : s.opr = 0x8#4) (hbits : s.bitcnt ≤ 40#6)
    (hp : s.phase = 1#4 ∨ s.phase = 7#4) (hr : s.input.rst = false) (hd : s.input.dlyDone = false) : step s = .next s.nextTick := by
  obtain ⟨p, hs⟩ := sensorReadPhase_of_delay hp
  have stays : s.delay p = s := by simp [State.delay, hd]
  rw [step_of_busy hr hb, runPhase_of_sensor ho hbits, hs, stays, endTick_next]

/-- Settles O33: each tick changes nothing by `step_of_unansweredDelay`, and so does the run. -/
theorem unansweredDelayHangs : Obligations.UnansweredDelayHangs := by
  intro s n hb ho hbits hp hr hd
  exact run_eq_skipTicks fun k hk => step_of_unansweredDelay hb ho hbits hp (by simpa [State.input] using hr k hk)
    (by simpa [State.input] using hd k hk)

end Sys2Proof.Machine
end

section
/-! The writers of the three line latches (20_memory.md R61 to R63, R77). -/

namespace Sys2Proof.Machine

section
variable (s : State) (l : InLine) (v : Bool) (limit : Option Nat) (code : Err) (nxt : Successor) (p : BitVec 4)

@[simp] theorem State.waitWhile_sclOut : (s.waitWhile l v limit code nxt).sclOut = s.sclOut := by
  obtain ⟨_, _, _, _, h⟩ := s.waitWhile_writes l v limit code nxt
  rw [h]
@[simp] theorem State.waitWhile_sdaOut : (s.waitWhile l v limit code nxt).sdaOut = s.sdaOut := by
  obtain ⟨_, _, _, _, h⟩ := s.waitWhile_writes l v limit code nxt
  rw [h]
@[simp] theorem sensorWait_sclOut : (sensorWait s v code nxt).sclOut = s.sclOut := s.waitWhile_sclOut ..
@[simp] theorem sensorWait_sdaOut : (sensorWait s v code nxt).sdaOut = s.sdaOut := s.waitWhile_sdaOut ..
@[simp] theorem State.delay_sclOut : (s.delay p).sclOut = s.sclOut := by
  obtain ⟨_, _, h⟩ := s.delay_writes p
  rw [h]
@[simp] theorem State.delay_sdaOut : (s.delay p).sdaOut = s.sdaOut := by
  obtain ⟨_, _, h⟩ := s.delay_writes p
  rw [h]
@[simp] theorem nextTxBit_sdaOut : (nextTxBit s).sdaOut = s.sdaOut := by
  obtain ⟨_, _, _, h⟩ := nextTxBit_writes s
  rw [h]
@[simp] theorem nextTxBit_dqOe : (nextTxBit s).dqOe = s.dqOe := by
  obtain ⟨_, _, _, h⟩ := nextTxBit_writes s
  rw [h]
@[simp] theorem takeBit_sclOut : (takeBit s).sclOut = s.sclOut := rfl
@[simp] theorem takeBit_sdaOut : (takeBit s).sdaOut = s.sdaOut := rfl

end

/-- A phase of START, like one of STOP, WRITE_BYTE and WAIT_ACK below, drives at most one of the two bus latches. -/
theorem startPhase_latches {s t : State} (h : startPhase s = .next t) :
    t.dqOe = s.dqOe ∧ (t.sclOut = s.sclOut ∨ t.sdaOut = s.sdaOut) := by
  rcases startPhase_cases h with ⟨_, rfl⟩ | ⟨_, rfl⟩ | ⟨_, rfl⟩ | ⟨_, rfl⟩ <;> simp

theorem stopPhase_latches {s t : State} (h : stopPhase s = .next t) :
    t.dqOe = s.dqOe ∧ (t.sclOut = s.sclOut ∨ t.sdaOut = s.sdaOut) := by
  rcases stopPhase_cases h with ⟨_, rfl⟩ | ⟨_, rfl⟩ | ⟨_, rfl⟩ | ⟨_, rfl⟩ <;> simp

theorem writeBytePhase_latches {s t : State} (h : writeBytePhase s = .next t) :
    t.dqOe = s.dqOe ∧ (t.sclOut = s.sclOut ∨ t.sdaOut = s.sdaOut) := by
  rcases writeBytePhase_cases h with ⟨_, rfl⟩ | ⟨_, rfl⟩ | ⟨_, rfl⟩ <;> simp

theorem waitAckPhase_latches {s t : State} (h : waitAckPhase s = .next t) :
    t.dqOe = s.dqOe ∧ (t.sclOut = s.sclOut ∨ t.sdaOut = s.sdaOut) := by
  rcases waitAckPhase_cases h with ⟨_, rfl⟩ | ⟨_, rfl⟩ | ⟨_, rfl⟩ <;> simp

/-- SENSOR_READ leaves the bus latches. -/
theorem sensorReadPhase_latches {s t : State} (h : sensorReadPhase s = .next t) : t.sclOut = s.sclOut ∧ t.sdaOut = s.sdaOut := by
  rcases sensorReadPhase_cases h with
    ⟨_, rfl⟩ | ⟨_, rfl⟩ | ⟨_, rfl⟩ | ⟨_, rfl⟩ | ⟨_, rfl⟩ | ⟨_, rfl⟩ | ⟨_, rfl⟩ | ⟨_, rfl⟩ | ⟨_, rfl⟩ | ⟨_, rfl⟩ | ⟨_, rfl⟩ <;>
  simp

/-- What one phase of the command in progress does to the latches. -/
theorem runPhase_latches {s t : State} (h : runPhase s = .next t) :
    (s.opr ≠ 0x8#4 ∧ t.dqOe = s.dqOe ∧ (t.sclOut = s.sclOut ∨ t.sdaOut = s.sdaOut)) ∨
    (s.opr = 0x8#4 ∧ t.sclOut = s.sclOut ∧ t.sdaOut = s.sdaOut) := by
  obtain ⟨_, ⟨ho, hu⟩ | ⟨ho, hu⟩ | ⟨ho, hu⟩ | ⟨ho, hu⟩ | ⟨ho, hu⟩⟩ := runPhase_cases h
  · exact .inl ⟨by simp [ho], startPhase_latches hu⟩
  · exact .inl ⟨by simp [ho], stopPhase_latches hu⟩
  · exact .inl ⟨by simp [ho], writeBytePhase_latches hu⟩
  · exact .inl ⟨by simp [ho], waitAckPhase_latches hu⟩
  · exact .inr ⟨ho, sensorReadPhase_latches hu⟩

/-- No acceptance writes a latch (30_encoding.md R95). -/
theorem State.accept_latches (s : State) (i : Instr) :
    (s.accept i).sclOut = s.sclOut ∧ (s.accept i).sdaOut = s.sdaOut ∧ (s.accept i).dqOe = s.dqOe := by
  cases i <;> exact ⟨rfl, rfl, rfl⟩

/-- An unreset tick of an idle block leaves all three latches, one of a bus command leaves `DQ_OE` and a bus latch, and one of SENSOR_READ leaves
both bus latches. -/
theorem step_latches {s t : State} (hr : s.input.rst = false) (h : step s = .next t) :
    (s.busy = false ∧ t.sclOut = s.sclOut ∧ t.sdaOut = s.sdaOut ∧ t.dqOe = s.dqOe) ∨
    (s.busy = true ∧ s.opr ≠ 0x8#4 ∧ t.dqOe = s.dqOe ∧ (t.sclOut = s.sclOut ∨ t.sdaOut = s.sdaOut)) ∨
    (s.busy = true ∧ s.opr = 0x8#4 ∧ t.sclOut = s.sclOut ∧ t.sdaOut = s.sdaOut) := by
  rcases step_cases_accept h with ⟨hr', _⟩ | ⟨_, hb, u, hu, rfl⟩ | ⟨_, hb, _, i, _, rfl⟩ | ⟨_, hb, _, _, rfl⟩ | ⟨_, hb, _, rfl⟩
  · simp [hr] at hr'
  · exact .inr ((runPhase_latches hu).imp (And.intro hb) (And.intro hb))
  · exact .inl ⟨hb, s.accept_latches i⟩
  · exact .inl ⟨hb, rfl, rfl, rfl⟩
  · exact .inl ⟨hb, rfl, rfl, rfl⟩

/-- Settles O39: by `step_latches`. -/
theorem oneLatchPerTick : Obligations.OneLatchPerTick := by
  intro s t hr h
  rcases step_latches hr h with ⟨_, hscl, hsda, _⟩ | ⟨_, _, hdq, hscl | hsda⟩ | ⟨_, _, hscl, hsda⟩
  · exact .inl ⟨hscl, hsda⟩
  · exact .inr (.inl ⟨hscl, hdq⟩)
  · exact .inr (.inr ⟨hsda, hdq⟩)
  · exact .inl ⟨hscl, hsda⟩

end Sys2Proof.Machine
end

section
/-! Which inputs a tick reads (20_memory.md R64, R77, R78): two input records that agree on those give the same tick. -/

namespace Sys2Proof.Machine

/-- The state with another input record on this tick. -/
def State.withInput (s : State) (i : Input) : State := { s with inputs := i :: s.inputs.tail }

section
variable (s : State) (i : Input)

@[simp] theorem State.withInput_input : (s.withInput i).input = i := rfl
@[simp] theorem State.withInput_busy : (s.withInput i).busy = s.busy := rfl
@[simp] theorem State.withInput_opr : (s.withInput i).opr = s.opr := rfl
@[simp] theorem State.withInput_phase : (s.withInput i).phase = s.phase := rfl

/-- The phases of START, like those of STOP and WRITE_BYTE below, read no input. -/
theorem startPhase_withInput : endTick (startPhase (s.withInput i)) = endTick (startPhase s) := by
  simp only [startPhase, State.withInput_phase]
  split <;> rfl

theorem stopPhase_withInput : endTick (stopPhase (s.withInput i)) = endTick (stopPhase s) := by
  simp only [stopPhase, State.withInput_phase]
  split <;> rfl

/-- Nor does the bookkeeping of a bit sent. -/
theorem nextTxBit_withInput : (nextTxBit (s.withInput i)).nextTick = (nextTxBit s).nextTick := by
  rcases nextTxBit_cases s with ⟨h, e⟩ | ⟨h, e⟩
  · rw [e, nextTxBit, if_pos (c := (s.withInput i).bitcnt = 1#6) h]
    rfl
  · rw [e, nextTxBit, if_neg (c := (s.withInput i).bitcnt = 1#6) h]
    rfl

theorem writeBytePhase_withInput : endTick (writeBytePhase (s.withInput i)) = endTick (writeBytePhase s) := by
  simp only [writeBytePhase, State.withInput_phase]
  split
  · rfl
  · rfl
  · exact congrArg Host.Outcome.next (nextTxBit_withInput (s.drive .scl true) i)
  · rfl

/-- An unsuccessful poll reads no input of its own. -/
theorem State.pollMiss_withInput (limit : Option Nat) (code : Err) :
    ((s.withInput i).pollMiss limit code).nextTick = (s.pollMiss limit code).nextTick := by
  rcases s.pollMiss_cases limit code with ⟨rfl, e⟩ | ⟨n, rfl, h, e⟩ | ⟨n, rfl, h, e⟩
  · rfl
  · rw [e, State.pollMiss, if_pos (c := n ≤ (s.withInput i).tocnt + 1) h]
    rfl
  · rw [e, State.pollMiss, if_neg (c := n ≤ (s.withInput i).tocnt + 1) (Nat.not_le.2 h)]
    rfl

end

section
variable {s : State} {i : Input}

/-- A waiting step reads the line it polls, and nothing else of the tick's inputs. -/
theorem State.waitWhile_withInput {l : InLine} (hl : l.level i = l.level s.input) (v : Bool) (limit : Option Nat) (code : Err)
    (nxt : Successor) : ((s.withInput i).waitWhile l v limit code nxt).nextTick = (s.waitWhile l v limit code nxt).nextTick := by
  have hsample : (s.withInput i).sample l = s.sample l := hl
  simp only [State.waitWhile, hsample]
  split
  · exact s.pollMiss_withInput i limit code
  · cases nxt <;> rfl

/-- A delay reads `dly_done` only. -/
theorem State.delay_withInput (hd : i.dlyDone = s.input.dlyDone) (p : BitVec 4) :
    ((s.withInput i).delay p).nextTick = (s.delay p).nextTick := by
  simp only [State.delay, State.withInput_input, hd]
  split <;> rfl

/-- WAIT_ACK reads `sda_i`, in phase 2. -/
theorem waitAckPhase_withInput (hsda : s.phase = 2#4 → i.sdaI = s.input.sdaI) :
    endTick (waitAckPhase (s.withInput i)) = endTick (waitAckPhase s) := by
  simp only [waitAckPhase, State.withInput_phase]
  split
  · rfl
  · rfl
  · next hp => exact congrArg Host.Outcome.next (State.waitWhile_withInput (l := .sda) (hsda hp) _ _ _ _)
  · rfl

/-- SENSOR_READ reads `dq_i` and `dly_done`. -/
theorem sensorReadPhase_withInput (hdq : i.dqI = s.input.dqI) (hd : i.dlyDone = s.input.dlyDone) :
    endTick (sensorReadPhase (s.withInput i)) = endTick (sensorReadPhase s) := by
  have wait (v : Bool) (code : Err) (nxt : Successor) :
      endTick (.next (sensorWait (s.withInput i) v code nxt)) = endTick (.next (sensorWait s v code nxt)) :=
    congrArg Host.Outcome.next (State.waitWhile_withInput (l := .dq) hdq _ _ _ _)
  have delay (p : BitVec 4) : endTick (.next ((s.withInput i).delay p)) = endTick (.next (s.delay p)) :=
    congrArg Host.Outcome.next (State.delay_withInput hd p)
  have bit : ((takeBit (s.withInput i)).setPhase 9#4).nextTick = ((takeBit s).setPhase 9#4).nextTick := by
    have hsample : (s.withInput i).sample .dq = s.sample .dq := hdq
    simp only [takeBit, hsample]
    rfl
  simp only [sensorReadPhase, State.withInput_phase]
  split
  · rfl
  · exact delay 2#4
  · rfl
  · exact wait ..
  · exact wait ..
  · exact wait ..
  · exact wait ..
  · exact delay 8#4
  · exact congrArg Host.Outcome.next bit
  · exact wait ..
  · rfl
  · rfl

/-- A phase in progress reads `sda_i` in phase 2 of WAIT_ACK, and `dq_i` and `dly_done` in SENSOR_READ. -/
theorem runPhase_withInput (hsda : s.opr = 0x4#4 → s.phase = 2#4 → i.sdaI = s.input.sdaI)
    (hsensor : s.opr = 0x8#4 → i.dqI = s.input.dqI ∧ i.dlyDone = s.input.dlyDone) :
    endTick (runPhase (s.withInput i)) = endTick (runPhase s) := by
  by_cases hbits : 40#6 < s.bitcnt
  · rw [runPhase, runPhase, if_pos hbits, if_pos (c := 40#6 < (s.withInput i).bitcnt) hbits]
    rfl
  · rw [runPhase, runPhase, if_neg hbits, if_neg (c := 40#6 < (s.withInput i).bitcnt) hbits, State.withInput_opr]
    split
    · exact startPhase_withInput s i
    · exact stopPhase_withInput s i
    · exact writeBytePhase_withInput s i
    · next ho => exact waitAckPhase_withInput (hsda ho)
    · next ho =>
      obtain ⟨hdq, hd⟩ := hsensor ho
      exact sensorReadPhase_withInput hdq hd
    · rfl

/-- The inputs a tick reads: reset and the command port always, the lines and `dly_done` only in the phases of `runPhase_withInput`. -/
theorem step_withInput (hrst : i.rst = s.input.rst) (hvalid : i.cmdValid = s.input.cmdValid) (hcmd : i.cmd = s.input.cmd)
    (hsda : s.input.rst = false → s.busy = true → s.opr = 0x4#4 → s.phase = 2#4 → i.sdaI = s.input.sdaI)
    (hsensor : s.busy = true → s.opr = 0x8#4 → i.dqI = s.input.dqI ∧ i.dlyDone = s.input.dlyDone) :
    step (s.withInput i) = step s := by
  simp only [step, State.withInput_input, State.withInput_busy, hrst, hvalid, hcmd]
  split
  · rfl
  · next hr =>
    split
    · next hb => exact runPhase_withInput (hsda (Bool.eq_false_iff.2 hr) hb) (hsensor hb)
    · next hb =>
      have idle : s.busy = false := Bool.eq_false_iff.2 hb
      split
      · split
        · next j _ =>
          rw [exec_of_idle j idle, exec_of_idle j (s := s.withInput i) idle]
          cases j <;> rfl
        · rfl
      · rfl

end

/-- Settles O40: the inputs by `step_withInput`, the latches by `step_latches`. -/
theorem busAndSensorAreDisjoint : Obligations.BusAndSensorAreDisjoint := by
  refine fun s => ⟨fun hbus => ⟨fun dq dly => ?_, fun t hr h => ?_⟩, fun hsensor => ⟨fun sda => ?_, fun t hr h => ?_⟩⟩
  · have noSensor : ¬(s.busy = true ∧ s.opr = 0x8#4) := by
      rcases hbus with hb | ho
      · simp [hb]
      · simp [ho]
    exact step_withInput rfl rfl rfl (fun _ _ _ _ => rfl) fun hb ho => absurd ⟨hb, ho⟩ noSensor
  · rcases step_latches hr h with ⟨_, _, _, hdq⟩ | ⟨_, _, hdq, _⟩ | ⟨hb, ho, _⟩
    · exact hdq
    · exact hdq
    · simp [hb, ho] at hbus
  · have noPoll : s.busy = true → s.opr ≠ 0x4#4 := by
      rcases hsensor with hb | ho
      · simp [hb]
      · simp [ho]
    exact step_withInput rfl rfl rfl (fun _ hb ho => absurd ho (noPoll hb)) fun _ _ => ⟨rfl, rfl⟩
  · rcases step_latches hr h with ⟨_, hscl, hsda, _⟩ | ⟨hb, ho, _⟩ | ⟨_, _, hscl, hsda⟩
    · exact ⟨hscl, hsda⟩
    · simp [hb, ho] at hsensor
    · exact ⟨hscl, hsda⟩

/-- A poll of WAIT_ACK. -/
theorem step_of_ackPoll {s : State} (hr : s.input.rst = false) (hb : s.busy = true) (ho : s.opr = 0x4#4) (hbits : s.bitcnt ≤ 40#6)
    (hp : s.phase = 2#4) : step s = .next (s.waitWhile .sda true s.cfg.ackTimeout .busAckTimeout .done).nextTick := by
  have poll : waitAckPhase s = .next (s.waitWhile .sda true s.cfg.ackTimeout .busAckTimeout .done) := by simp [waitAckPhase, hp]
  rw [step_of_busy hr hb, runPhase_of_waitAck ho hbits, poll, endTick_next]

/-- A poll of WAIT_ACK ends the command without an error exactly when it sees the line low (40_bus_master.md R142). -/
theorem ackPoll_completes_iff {s t : State} (hr : s.input.rst = false) (hb : s.busy = true) (ho : s.opr = 0x4#4) (hbits : s.bitcnt ≤ 40#6)
    (hp : s.phase = 2#4) (he : s.err = .none) (h : step s = .next t) : (t.busy = false ∧ t.err = .none) ↔ s.input.sdaI = false := by
  rw [step_of_ackPoll hr hb ho hbits hp] at h
  cases h
  have level : s.input.sdaI = s.sample .sda := rfl
  rw [level]
  rcases s.waitWhile_cases .sda true s.cfg.ackTimeout .busAckTimeout .done with ⟨hv, e⟩ | ⟨hv, _, e⟩ | ⟨hv, _, e⟩ | ⟨hv, _, e⟩
  · simp [e, hv, he]
  · simp [e, hv, hb]
  · simp [e, hv]
  · simp [e, hv, hb]

/-- Settles O41: outside the poll by `step_withInput`; in it the two levels lead to different states by `ackPoll_completes_iff`, and the latches are
the invariant's. -/
theorem dataLineSampledOnlyByWaitAck : Obligations.DataLineSampledOnlyByWaitAck := by
  refine fun s h => ⟨fun sda hne => ?_, fun hb ho hp => ?_⟩
  · by_contra hpoll
    exact hne (step_withInput rfl rfl rfl (fun hr hb ho hp => absurd ⟨hr, hb, ho, hp⟩ hpoll) fun _ _ => ⟨rfl, rfl⟩)
  · have hpoll : s.AckInv := h.ackInv hb ho
    obtain ⟨hscl, hsda⟩ := hpoll.poll hp
    refine ⟨hscl, hsda, fun hr heq => ?_⟩
    obtain ⟨t, ht⟩ : ∃ t, step s = .next t := ⟨_, step_of_ackPoll hr hb ho hpoll.progress.bitcnt_le hp⟩
    have here := ackPoll_completes_iff hr hb ho hpoll.progress.bitcnt_le hp hpoll.progress.err ht
    have flipped := ackPoll_completes_iff (s := s.withInput { s.input with sdaI := !s.input.sdaI }) hr hb ho hpoll.progress.bitcnt_le hp
      hpoll.progress.err (heq.trans ht)
    have levels : s.input.sdaI = false ↔ (!s.input.sdaI) = false := here.symm.trans flipped
    cases hlevel : s.input.sdaI <;> simp [hlevel] at levels

end Sys2Proof.Machine
end

section
/-! The decoder (30_encoding.md R90 to R93, R101): it reads a command from a word's OP, and from its ARG only the operand of WRITE_BYTE. -/

namespace Sys2Proof

/-- The fields of every command's word, gathered from the five statements of `Laws.EncodedFields`. -/
theorem encodedFields (i : Instr) : Laws.EncodedFields.Statement i := by
  cases i with
  | start => exact Laws.EncodedFields.start
  | stop => exact Laws.EncodedFields.stop
  | writeByte arg => exact Laws.EncodedFields.writeByte arg
  | waitAck => exact Laws.EncodedFields.waitAck
  | sensorRead => exact Laws.EncodedFields.sensorRead

/-- The OP column of the table of R92. -/
theorem Instr.op_legal (i : Instr) : i.op = 0x1#4 ∨ i.op = 0x2#4 ∨ i.op = 0x3#4 ∨ i.op = 0x4#4 ∨ i.op = 0x8#4 := by
  cases i <;> simp [Instr.op]

/-- A command that ignores ARG is emitted with ARG 0x00 (R101). -/
theorem Instr.argField_of_ignored {i : Instr} (h : i.op ≠ 0x3#4) : i.argField = 0x00#8 := by
  cases i with
  | writeByte arg => exact absurd rfl h
  | _ => rfl

/-- A word decodes to a command exactly when it holds the command's OP and, for WRITE_BYTE, its ARG (R91, R92). -/
theorem decode_eq_ok_iff {w : CmdWord} {i : Instr} :
    decode w = .ok i ↔ opOf w = i.op ∧ (i.op = 0x3#4 → argOf w = i.argField) := by
  constructor
  · intro h
    unfold decode at h
    split_ifs at h with hop hop hop hop hop <;> cases h <;> exact ⟨hop, by simp [Instr.op, Instr.argField]⟩
  · rintro ⟨hop, harg⟩
    cases i with
    | writeByte arg =>
      have hv : argOf w = arg := harg rfl
      simp [decode, hop, hv, Instr.op]
    | _ => simp [decode, hop, Instr.op]

/-- A word is rejected for no other reason than its OP (R93). -/
theorem decode_eq_error {w : CmdWord} {e : DecodeError} (h : decode w = .error e) : e = .illegalOp (opOf w) := by
  unfold decode at h
  split_ifs at h
  cases h
  rfl

/-- Settles O2: a command's word holds the command's own fields, and a word that decodes to it shares with that word the fields of `decode_eq_ok_iff`. -/
theorem decodeEncodeAgree : Obligations.DecodeEncodeAgree := by
  refine ⟨fun i _ => ?_, fun w i h => ?_⟩
  · obtain ⟨hop, harg, _⟩ := encodedFields i
    exact decode_eq_ok_iff.2 ⟨hop, fun _ => harg⟩
  · obtain ⟨hop, harg, hwf⟩ := encodedFields i
    obtain ⟨wop, warg⟩ := decode_eq_ok_iff.1 h
    refine ⟨hwf, hop.trans wop.symm, fun h3 => ?_, fun h3 => ?_⟩
    · calc encode i = mkWord (opOf w) (argOf w) := by rw [encode, wop, warg (wop ▸ h3)]
        _ = w := mkWord_opOf_argOf w
    · exact harg.trans (Instr.argField_of_ignored (wop ▸ h3))

/-- Settles O1, by evaluation. -/
theorem specWordsDecode : Obligations.SpecWordsDecode := ⟨rfl, rfl, rfl, rfl, rfl, rfl, rfl, rfl⟩

/-- Settles O3: the OPs of the commands are the five of `Instr.op_legal`. -/
theorem decoderAcceptsFiveOpcodes : Obligations.DecoderAcceptsFiveOpcodes := by
  refine fun w => ⟨⟨?_, ?_⟩, fun hnone => ?_⟩
  · rintro ⟨i, h⟩
    obtain ⟨hop, _⟩ := decode_eq_ok_iff.1 h
    exact hop ▸ i.op_legal
  · rintro (h | h | h | h | h)
    · exact ⟨.start, decode_eq_ok_iff.2 ⟨h, by simp [Instr.op]⟩⟩
    · exact ⟨.stop, decode_eq_ok_iff.2 ⟨h, by simp [Instr.op]⟩⟩
    · exact ⟨.writeByte (argOf w), decode_eq_ok_iff.2 ⟨h, fun _ => rfl⟩⟩
    · exact ⟨.waitAck, decode_eq_ok_iff.2 ⟨h, by simp [Instr.op]⟩⟩
    · exact ⟨.sensorRead, decode_eq_ok_iff.2 ⟨h, by simp [Instr.op]⟩⟩
  · cases h : decode w with
    | ok i => exact absurd ⟨i, h⟩ hnone
    | error e => rw [decode_eq_error h]

/-- Settles O4: without OP 0x3 the decoder reads the OP alone, and with it the ARG as `decode_eq_ok_iff` says. -/
theorem onlyWriteByteReadsArg : Obligations.OnlyWriteByteReadsArg := by
  refine ⟨fun op a b h3 => ?_, fun a => ?_⟩
  · simp [decode, h3]
  · exact decode_eq_ok_iff.2 ⟨opOf_mkWord _ _, fun _ => argOf_mkWord _ _⟩

end Sys2Proof
end

section
/-! The tick by what is on the command port (30_encoding.md R94 to R98): a word that is accepted, an illegal word, no word, or a word at a busy block. -/

namespace Sys2Proof.Machine

/-- Reset overrides everything (70_reset_and_hazards.md R280). -/
theorem step_of_reset {s : State} (hr : s.input.rst = true) : step s = .next s.resetBlock.nextTick := by
  simp [step, hr]

/-- A tick on which a command's word is presented is `exec` of the command: on an idle block its acceptance, on a busy one the next phase (R94, R96). -/
theorem step_of_command {s : State} {i : Instr} (hr : s.input.rst = false) (hv : s.input.cmdValid = true) (hi : decode s.input.cmd = .ok i) :
    step s = endTick (exec i s) := by
  cases hb : s.busy
  · simp [step, hr, hb, hv, hi]
  · rw [step_of_busy hr hb, exec_of_busy i hb]

/-- An illegal word at an idle block sets `ERR` (R97). -/
theorem step_of_illegal {s : State} {e : DecodeError} (hr : s.input.rst = false) (hb : s.busy = false) (hv : s.input.cmdValid = true)
    (he : decode s.input.cmd = .error e) : step s = .next s.acceptIllegal.nextTick := by
  simp [step, hr, hb, hv, he]

/-- Settles O7: of an idle block's ticks only one with a word presented has an effect. -/
theorem idleTickChangesNothing : Obligations.IdleTickChangesNothing := by
  intro s hb hr hv
  simp [step, hr, hb, hv]

/-- Settles O5: by `step_of_command`, since the tick's end keeps a refusal as it is. -/
theorem stepRunsDecodedCommand : Obligations.StepRunsDecodedCommand := by
  intro s i hr hv hi _
  rw [step_of_command hr hv hi]
  exact ⟨fun t ht => by rw [ht, endTick_next], fun r h => by rw [h, endTick]⟩

/-- Settles O12: an idle block accepts each command, and `State.accept` is the state R95, R128 and R162 give. -/
theorem acceptanceOfEachCommand : Obligations.AcceptanceOfEachCommand := fun _ hb =>
  ⟨exec_of_idle .start hb, exec_of_idle .stop hb, fun arg => exec_of_idle (.writeByte arg) hb, exec_of_idle .waitAck hb,
    exec_of_idle .sensorRead hb⟩

/-- Every acceptance puts the command in progress, at its phase 0 and without an error (R95). -/
theorem State.accept_sequencer (s : State) (i : Instr) :
    (s.accept i).busy = true ∧ (s.accept i).opr = i.op ∧ (s.accept i).phase = 0#4 ∧ (s.accept i).err = .none := by
  cases i <;> exact ⟨rfl, rfl, rfl, rfl⟩

/-- A word the host's table reads as a command is that command's word on the port (log entry 5). -/
theorem decodeTableWord_eq_some {nbits w : Nat} {i : Instr} (h : decodeTableWord nbits w = some i) : decode (tableWord nbits w) = .ok i := by
  unfold decodeTableWord at h
  split at h
  · next j hj =>
    cases h
    exact hj
  · cases h

/-- Settles O11: the placed word meets an idle, unreset block, which accepts it. -/
theorem placedWordRunsNext : Obligations.PlacedWordRunsNext := by
  intro s nbits w i h
  have accepted : exec i (s.withFetchWord nbits w) = .next ((s.withFetchWord nbits w).accept i) := exec_of_idle i rfl
  refine ⟨_, accepted, ?_, State.accept_sequencer _ i⟩
  rw [step_of_command (s := s.withFetchWord nbits w) rfl rfl (decodeTableWord_eq_some h), accepted, endTick_next]

/-- Settles O8: the first illegal word sets `ERR`, and each further one finds it set and changes nothing. -/
theorem illegalWordsSetErrOnly : Obligations.IllegalWordsSetErrOnly := by
  intro s n hb hr hw
  obtain ⟨hv, e, he⟩ := hw 0 (by omega)
  have first : step s = .next s.acceptIllegal.nextTick := step_of_illegal (hr 0 (by omega)) hb hv he
  have rest : ∀ k < n, step (s.acceptIllegal.nextTick.skipTicks k) = .next (s.acceptIllegal.nextTick.skipTicks k).nextTick := by
    intro k hk
    have input_eq : (s.acceptIllegal.nextTick.skipTicks k).input = s.inputAt (k + 1) := by simp [State.input]
    have hr := hr (k + 1) (by omega)
    obtain ⟨hv, e, he⟩ := hw (k + 1) (by omega)
    rw [← input_eq] at hr hv he
    exact step_of_illegal hr hb hv he
  rw [run_succ_of_next n first, run_eq_skipTicks rest, State.nextTick_eq_skipTicks, State.skipTicks_skipTicks, Nat.add_comm]
  rfl

/-- On a busy block a tick reads reset and the inputs of the phase in progress: never the command port (R96, 20_memory.md R80). -/
theorem step_withInput_of_busy {s : State} {i : Input} (hb : s.busy = true) (hrst : i.rst = s.input.rst) (hsda : i.sdaI = s.input.sdaI)
    (hdq : i.dqI = s.input.dqI) (hd : i.dlyDone = s.input.dlyDone) : step (s.withInput i) = step s := by
  cases hr : s.input.rst
  · rw [step_of_busy hr hb, step_of_busy (s := s.withInput i) (hrst.trans hr) hb]
    exact runPhase_withInput (fun _ _ => hsda) fun _ => ⟨hdq, hd⟩
  · exact (step_of_reset (s := s.withInput i) (hrst.trans hr)).trans (step_of_reset hr).symm

/-- Settles O6: the tick by `step_withInput_of_busy`, and `exec` of any command is the phase in progress. -/
theorem busyBlockIgnoresCommandPort : Obligations.BusyBlockIgnoresCommandPort := by
  refine fun s hb => ⟨fun v w => ?_, fun i j => ?_, fun hr i t ht => ?_⟩
  · exact step_withInput_of_busy hb rfl rfl rfl rfl
  · rw [exec_of_busy i hb, exec_of_busy j hb]
  · rw [step_of_busy hr hb, ← exec_of_busy i hb, ht, endTick_next]

end Sys2Proof.Machine
end

section
/-! Which busy ticks are refused (30_encoding.md R98, 93_implementation_defined.md U18; log entry 8). -/

namespace Sys2Proof.Machine

/-- A phase that runs is one its micro-program names (10_state.md R29). -/
theorem phaseNamed_of_runPhase {s t : State} (h : runPhase s = .next t) : phaseNamed s.opr s.phase = true := by
  obtain ⟨_, ⟨ho, hu⟩ | ⟨ho, hu⟩ | ⟨ho, hu⟩ | ⟨ho, hu⟩ | ⟨ho, hu⟩⟩ := runPhase_cases h
  · rcases startPhase_cases hu with ⟨hp, _⟩ | ⟨hp, _⟩ | ⟨hp, _⟩ | ⟨hp, _⟩ <;> rw [ho, hp] <;> rfl
  · rcases stopPhase_cases hu with ⟨hp, _⟩ | ⟨hp, _⟩ | ⟨hp, _⟩ | ⟨hp, _⟩ <;> rw [ho, hp] <;> rfl
  · rcases writeBytePhase_cases hu with ⟨hp, _⟩ | ⟨hp, _⟩ | ⟨hp, _⟩ <;> rw [ho, hp] <;> rfl
  · rcases waitAckPhase_cases hu with ⟨hp, _⟩ | ⟨hp, _⟩ | ⟨hp, _⟩ <;> rw [ho, hp] <;> rfl
  · rcases sensorReadPhase_cases hu with
      ⟨hp, _⟩ | ⟨hp, _⟩ | ⟨hp, _⟩ | ⟨hp, _⟩ | ⟨hp, _⟩ | ⟨hp, _⟩ | ⟨hp, _⟩ | ⟨hp, _⟩ | ⟨hp, _⟩ | ⟨hp, _⟩ | ⟨hp, _⟩ <;>
    rw [ho, hp] <;> rfl

/-- The phases that run are the named ones, with `BITCNT` in range. -/
theorem runPhase_next_iff (s : State) : (∃ t, runPhase s = .next t) ↔ phaseNamed s.opr s.phase = true ∧ s.bitcnt ≤ 40#6 := by
  constructor
  · rintro ⟨t, h⟩
    obtain ⟨hbits, _⟩ := runPhase_cases h
    exact ⟨phaseNamed_of_runPhase h, hbits⟩
  · rintro ⟨hnamed, hbits⟩
    exact runPhase_progress hbits hnamed

/-- Nothing raises a fault (log entry 13), so a phase that does not run refuses its tick. -/
theorem endTick_refused_iff (r : Result) : (∃ q, endTick r = .refused q) ↔ ¬∃ t, r = .next t := by
  cases r with
  | next t => simp
  | fault f => cases f
  | refused q => simp [endTick]

/-- Settles O21: a busy tick is refused exactly when the phase in progress does not run (`runPhase_next_iff`). -/
theorem onlyUnreachablePhasesRefused : Obligations.OnlyUnreachablePhasesRefused := by
  intro s hb hr
  rw [step_of_busy hr hb, endTick_refused_iff, runPhase_next_iff, not_and_or, Bool.not_eq_true, BitVec.not_le]

end Sys2Proof.Machine
end

section
/-! SUPPORT. Runs of a bus command seen on the lines (00_scope.md R15): a run is put together from its ticks, each with the latches it leaves. -/

namespace Sys2Proof.Machine

/-- Ticks, as many as the list is long, lead from the first state to the last, and the latches after each of them are the list. -/
inductive RunShows : State → List (Bool × Bool) → State → Prop
  | nil (s : State) : RunShows s [] s
  | cons {s t u : State} {trace : List (Bool × Bool)} : step s = .next t → RunShows t trace u → RunShows s (t.latches :: trace) u

theorem RunShows.run_eq {n : Nat} {s u : State} {trace : List (Bool × Bool)} (h : RunShows s trace u) (hn : trace.length = n) :
    run n s = .next u := by
  subst hn
  induction h with
  | nil s => exact run_zero s
  | cons hstep _ ih => rw [List.length_cons, run_succ_of_next _ hstep, ih]

theorem RunShows.busTrace_eq {n : Nat} {s u : State} {trace : List (Bool × Bool)} (h : RunShows s trace u) (hn : trace.length = n) :
    busTrace n s = trace := by
  subst hn
  induction h with
  | nil s => rfl
  | cons hstep _ ih => simpa [busTrace, statesAfter_succ_of_next _ hstep] using ih

theorem RunShows.append {s t u : State} {trace more : List (Bool × Bool)} (h : RunShows s trace t) (h' : RunShows t more u) :
    RunShows s (trace ++ more) u := by
  induction h with
  | nil s => exact h'
  | cons hstep _ ih => exact .cons hstep (ih h')

theorem RunShows.of_eq {s t : State} (h : s = t) : RunShows s [] t := h ▸ .nil s

section inputs
variable (s : State) (l : InLine) (v : Bool) (limit : Option Nat) (code : Err) (nxt : Successor) (p : BitVec 4) (k : Nat)

@[simp] theorem State.waitWhile_inputAt : (s.waitWhile l v limit code nxt).inputAt k = s.inputAt k := by
  obtain ⟨_, _, _, _, h⟩ := s.waitWhile_writes l v limit code nxt
  rw [h]
  rfl
@[simp] theorem sensorWait_inputAt : (sensorWait s v code nxt).inputAt k = s.inputAt k := s.waitWhile_inputAt ..
@[simp] theorem State.delay_inputAt : (s.delay p).inputAt k = s.inputAt k := by
  obtain ⟨_, _, h⟩ := s.delay_writes p
  rw [h]
  rfl
@[simp] theorem nextTxBit_inputAt : (nextTxBit s).inputAt k = s.inputAt k := by
  obtain ⟨_, _, _, h⟩ := nextTxBit_writes s
  rw [h]
  rfl
@[simp] theorem takeBit_inputAt : (takeBit s).inputAt k = s.inputAt k := rfl
@[simp] theorem State.accept_inputAt (i : Instr) : (s.accept i).inputAt k = s.inputAt k := by
  cases i <;> rfl

end inputs

theorem sensorReadPhase_inputAt {s t : State} (h : sensorReadPhase s = .next t) (k : Nat) : t.inputAt k = s.inputAt k := by
  have reading : ({ s with rvalid := true } : State).inputAt k = s.inputAt k := rfl
  rcases sensorReadPhase_cases h with
    ⟨_, rfl⟩ | ⟨_, rfl⟩ | ⟨_, rfl⟩ | ⟨_, rfl⟩ | ⟨_, rfl⟩ | ⟨_, rfl⟩ | ⟨_, rfl⟩ | ⟨_, rfl⟩ | ⟨_, rfl⟩ | ⟨_, rfl⟩ | ⟨_, rfl⟩ <;>
  simp [reading]

/-- A phase of a command leaves the inputs of the coming ticks as they are (10_state.md R22). -/
theorem runPhase_inputAt {s t : State} (h : runPhase s = .next t) (k : Nat) : t.inputAt k = s.inputAt k := by
  obtain ⟨_, ⟨_, hu⟩ | ⟨_, hu⟩ | ⟨_, hu⟩ | ⟨_, hu⟩ | ⟨_, hu⟩⟩ := runPhase_cases h
  · rcases startPhase_cases hu with ⟨_, rfl⟩ | ⟨_, rfl⟩ | ⟨_, rfl⟩ | ⟨_, rfl⟩ <;> rfl
  · rcases stopPhase_cases hu with ⟨_, rfl⟩ | ⟨_, rfl⟩ | ⟨_, rfl⟩ | ⟨_, rfl⟩ <;> rfl
  · rcases writeBytePhase_cases hu with ⟨_, rfl⟩ | ⟨_, rfl⟩ | ⟨_, rfl⟩ <;> simp
  · rcases waitAckPhase_cases hu with ⟨_, rfl⟩ | ⟨_, rfl⟩ | ⟨_, rfl⟩ <;> simp
  · exact sensorReadPhase_inputAt hu k

theorem State.skipTicks_succ (s : State) (n : Nat) : s.skipTicks (n + 1) = s.nextTick.skipTicks n := by
  rw [State.nextTick_eq_skipTicks, State.skipTicks_skipTicks, Nat.add_comm]

theorem noReset_skipTicks {m n : Nat} {s t : State} (hr : NoReset (m + n) s) (h : ∀ k, t.inputAt k = s.inputAt k) : NoReset n (t.skipTicks m) := by
  intro k hk
  rw [State.skipTicks_inputAt, h]
  exact hr (m + k) (by omega)

theorem noReset_nextTick {n : Nat} {s t : State} (hr : NoReset (n + 1) s) (h : ∀ k, t.inputAt k = s.inputAt k) : NoReset n t.nextTick :=
  t.nextTick_eq_skipTicks ▸ noReset_skipTicks (Nat.add_comm n 1 ▸ hr) h

/-- A command in progress at a phase, with `BITCNT` in range: what its next tick needs (30_encoding.md R98). -/
structure State.AtPhase (s : State) (op : OpField) (p : BitVec 4) : Prop where
  busy      : s.busy = true
  opr       : s.opr = op
  phase     : s.phase = p
  bitcnt_le : s.bitcnt ≤ 40#6

section AtPhase
variable {s : State} {op : OpField} {p : BitVec 4}

theorem State.AtPhase.drive (h : s.AtPhase op p) (l : OutLine) (b : Bool) : (s.drive l b).AtPhase op p := by
  cases l <;> exact ⟨h.busy, h.opr, h.phase, h.bitcnt_le⟩

theorem State.AtPhase.setPhase (h : s.AtPhase op p) (q : BitVec 4) : (s.setPhase q).AtPhase op q := ⟨h.busy, h.opr, rfl, h.bitcnt_le⟩

theorem State.AtPhase.nextTick (h : s.AtPhase op p) : s.nextTick.AtPhase op p := ⟨h.busy, h.opr, h.phase, h.bitcnt_le⟩

theorem State.AtPhase.skipTicks (h : s.AtPhase op p) (n : Nat) : (s.skipTicks n).AtPhase op p := ⟨h.busy, h.opr, h.phase, h.bitcnt_le⟩

/-- The tick after an acceptance runs phase 0 of the command. -/
theorem State.accept_atPhase (i : Instr) (hbits : (s.accept i).bitcnt ≤ 40#6) : (s.accept i).nextTick.AtPhase i.op 0#4 := by
  obtain ⟨hb, ho, hp, _⟩ := s.accept_sequencer i
  exact ⟨hb, ho, hp, hbits⟩

/-- A run of an unreset busy block begins with a phase of the command in progress. -/
theorem RunShows.phase {n : Nat} {t u : State} {x : Bool × Bool} {trace : List (Bool × Bool)} (hb : s.busy = true) (hr : NoReset (n + 1) s)
    (h : runPhase s = .next t) (hx : t.latches = x) (rest : NoReset n t.nextTick → RunShows t.nextTick trace u) : RunShows s (x :: trace) u := by
  subst hx
  have tick : step s = .next t.nextTick := by rw [step_of_busy (hr 0 (by omega)) hb, h, endTick_next]
  exact .cons (t := t.nextTick) tick (rest (noReset_nextTick hr (runPhase_inputAt h)))

/-- A run that begins with a phase that drives a line and goes on to the next phase. -/
theorem State.AtPhase.shows_drive {n : Nat} {u : State} {l : OutLine} {b : Bool} {q : BitVec 4} {trace : List (Bool × Bool)}
    (h : s.AtPhase op p) (hr : NoReset (n + 1) s) (hphase : runPhase s = .next ((s.drive l b).setPhase q))
    (rest : ((s.drive l b).setPhase q).nextTick.AtPhase op q → NoReset n ((s.drive l b).setPhase q).nextTick →
      RunShows ((s.drive l b).setPhase q).nextTick trace u) :
    RunShows s (((s.drive l b).setPhase q).latches :: trace) u :=
  .phase h.busy hr hphase rfl (rest ((h.drive l b).setPhase q).nextTick)

end AtPhase

end Sys2Proof.Machine
end

section
/-! START and STOP (40_bus_master.md R121 to R125): their phases as rules, then the whole commands. -/

namespace Sys2Proof.Machine

section
variable {s : State}

/-! ### START, phase by phase (R122) -/

theorem runPhase_of_start (ho : s.opr = 0x1#4) (hbits : s.bitcnt ≤ 40#6) : runPhase s = startPhase s := by
  simp [runPhase, ho, BitVec.not_lt.2 hbits]

theorem State.AtPhase.start_zero (h : s.AtPhase 0x1#4 0#4) : runPhase s = .next ((s.drive .sda true).setPhase 1#4) := by
  simp [runPhase_of_start h.opr h.bitcnt_le, startPhase, h.phase]

theorem State.AtPhase.start_one (h : s.AtPhase 0x1#4 1#4) : runPhase s = .next ((s.drive .scl true).setPhase 2#4) := by
  simp [runPhase_of_start h.opr h.bitcnt_le, startPhase, h.phase]

theorem State.AtPhase.start_two (h : s.AtPhase 0x1#4 2#4) : runPhase s = .next ((s.drive .sda false).setPhase 3#4) := by
  simp [runPhase_of_start h.opr h.bitcnt_le, startPhase, h.phase]

theorem State.AtPhase.start_three (h : s.AtPhase 0x1#4 3#4) : runPhase s = .next (s.drive .scl false).complete := by
  simp [runPhase_of_start h.opr h.bitcnt_le, startPhase, h.phase]

/-! ### STOP, phase by phase (R125) -/

theorem runPhase_of_stop (ho : s.opr = 0x2#4) (hbits : s.bitcnt ≤ 40#6) : runPhase s = stopPhase s := by
  simp [runPhase, ho, BitVec.not_lt.2 hbits]

theorem State.AtPhase.stop_zero (h : s.AtPhase 0x2#4 0#4) : runPhase s = .next ((s.drive .scl false).setPhase 1#4) := by
  simp [runPhase_of_stop h.opr h.bitcnt_le, stopPhase, h.phase]

theorem State.AtPhase.stop_one (h : s.AtPhase 0x2#4 1#4) : runPhase s = .next ((s.drive .sda false).setPhase 2#4) := by
  simp [runPhase_of_stop h.opr h.bitcnt_le, stopPhase, h.phase]

theorem State.AtPhase.stop_two (h : s.AtPhase 0x2#4 2#4) : runPhase s = .next ((s.drive .scl true).setPhase 3#4) := by
  simp [runPhase_of_stop h.opr h.bitcnt_le, stopPhase, h.phase]

theorem State.AtPhase.stop_three (h : s.AtPhase 0x2#4 3#4) : runPhase s = .next (s.drive .sda true).complete := by
  simp [runPhase_of_stop h.opr h.bitcnt_le, stopPhase, h.phase]

/-! ### The whole micro-programs, and the four statements -/

/-- START from its phase 0: data high, clock high, data low, clock low (R122). -/
theorem State.AtPhase.start_shows (h : s.AtPhase 0x1#4 0#4) (hr : NoReset 4 s) :
    RunShows s [(s.sclOut, true), (true, true), (true, false), (false, false)]
      (({ s with sclOut := false, sdaOut := false, busy := false, phase := 0#4, tocnt := 0 } : State).skipTicks 4) :=
  h.shows_drive hr h.start_zero fun h hr =>
  h.shows_drive hr h.start_one fun h hr =>
  h.shows_drive hr h.start_two fun h hr =>
  .phase h.busy hr h.start_three rfl fun _ =>
  .of_eq (by simp [State.drive, State.setPhase, State.complete, State.nextTick_eq_skipTicks, State.skipTicks])

/-- STOP from its phase 0: clock low, data low, clock high, data high (R125). -/
theorem State.AtPhase.stop_shows (h : s.AtPhase 0x2#4 0#4) (hr : NoReset 4 s) :
    RunShows s [(false, s.sdaOut), (false, false), (true, false), (true, true)]
      (({ s with sclOut := true, sdaOut := true, busy := false, phase := 0#4, tocnt := 0 } : State).skipTicks 4) :=
  h.shows_drive hr h.stop_zero fun h hr =>
  h.shows_drive hr h.stop_one fun h hr =>
  h.shows_drive hr h.stop_two fun h hr =>
  .phase h.busy hr h.stop_three rfl fun _ =>
  .of_eq (by simp [State.drive, State.setPhase, State.complete, State.nextTick_eq_skipTicks, State.skipTicks])

end

/-- Settles O13: one rule a phase. -/
theorem startPhaseByPhase : Obligations.StartPhaseByPhase := by
  intro s hb ho hbits
  rw [exec_of_busy .start hb]
  exact ⟨fun hp => State.AtPhase.start_zero ⟨hb, ho, hp, hbits⟩, fun hp => State.AtPhase.start_one ⟨hb, ho, hp, hbits⟩,
    fun hp => State.AtPhase.start_two ⟨hb, ho, hp, hbits⟩, fun hp => State.AtPhase.start_three ⟨hb, ho, hp, hbits⟩⟩

/-- Settles O14: one rule a phase. -/
theorem stopPhaseByPhase : Obligations.StopPhaseByPhase := by
  intro s hb ho hbits
  rw [exec_of_busy .stop hb]
  exact ⟨fun hp => State.AtPhase.stop_zero ⟨hb, ho, hp, hbits⟩, fun hp => State.AtPhase.stop_one ⟨hb, ho, hp, hbits⟩,
    fun hp => State.AtPhase.stop_two ⟨hb, ho, hp, hbits⟩, fun hp => State.AtPhase.stop_three ⟨hb, ho, hp, hbits⟩⟩

/-- Settles O22: the acceptance tick, then the four phases by `State.AtPhase.start_shows`. -/
theorem startRunsToCompletion : Obligations.StartRunsToCompletion := by
  intro s hb hbits hr
  have whole := (State.accept_atPhase .start hbits).start_shows (noReset_nextTick hr (s.accept_inputAt · .start))
  refine ⟨s.accept .start, exec_of_idle .start hb, rfl, whole.busTrace_eq rfl, (whole.run_eq rfl).trans ?_⟩
  rw [State.skipTicks_succ _ 4]
  rfl

/-- Settles O23: the acceptance tick, then the four phases by `State.AtPhase.stop_shows`. -/
theorem stopRunsToCompletion : Obligations.StopRunsToCompletion := by
  intro s hb hbits hr
  have whole := (State.accept_atPhase .stop hbits).stop_shows (noReset_nextTick hr (s.accept_inputAt · .stop))
  refine ⟨s.accept .stop, exec_of_idle .stop hb, rfl, whole.busTrace_eq rfl, (whole.run_eq rfl).trans ?_⟩
  rw [State.skipTicks_succ _ 4]
  rfl

end Sys2Proof.Machine
end

section
/-! WRITE_BYTE (40_bus_master.md R127 to R133): its phases as rules, one bit of the byte, and the byte by induction on the bits that are left. -/

namespace Sys2Proof.Machine

section
variable {s : State}

theorem runPhase_of_writeByte (ho : s.opr = 0x3#4) (hbits : s.bitcnt ≤ 40#6) : runPhase s = writeBytePhase s := by
  simp [runPhase, ho, BitVec.not_lt.2 hbits]

theorem State.AtPhase.write_zero (h : s.AtPhase 0x3#4 0#4) : runPhase s = .next ((s.drive .scl false).setPhase 1#4) := by
  simp [runPhase_of_writeByte h.opr h.bitcnt_le, writeBytePhase, h.phase]

theorem State.AtPhase.write_one (h : s.AtPhase 0x3#4 1#4) : runPhase s = .next ((s.drive .sda s.txBit).setPhase 2#4) := by
  simp [runPhase_of_writeByte h.opr h.bitcnt_le, writeBytePhase, h.phase]

theorem State.AtPhase.write_two (h : s.AtPhase 0x3#4 2#4) : runPhase s = .next (nextTxBit (s.drive .scl true)) := by
  simp [runPhase_of_writeByte h.opr h.bitcnt_le, writeBytePhase, h.phase]

end

/-! ### The bookkeeping of phase 2 -/

/-- The bookkeeping of phase 2 as whole next states (R132). -/
theorem nextTxBit_of_more {s : State} (h : s.bitcnt ≠ 1#6) :
    nextTxBit s = { s with txsh := s.txsh <<< 1, bitcnt := s.bitcnt - 1#6, phase := 0#4, tocnt := 0 } := by
  rw [nextTxBit, if_neg h]
  rfl

theorem nextTxBit_of_last {s : State} (h : s.bitcnt = 1#6) :
    nextTxBit s = { s with txsh := s.txsh <<< 1, bitcnt := 0#6, busy := false, phase := 0#4, tocnt := 0 } := by
  rw [nextTxBit, if_pos h]
  simp [shiftTx, shiftOut, State.complete, h]

/-- Settles O15: one rule a phase, and in phase 2 the bookkeeping by the bit count. -/
theorem writeBytePhaseByPhase : Obligations.WriteBytePhaseByPhase := by
  intro s arg hb ho hbits
  rw [exec_of_busy (.writeByte arg) hb]
  refine ⟨fun hp => State.AtPhase.write_zero ⟨hb, ho, hp, hbits⟩, fun hp => State.AtPhase.write_one ⟨hb, ho, hp, hbits⟩,
    fun hp hmore => ?_, fun hp hlast => ?_⟩
  · rw [State.AtPhase.write_two ⟨hb, ho, hp, hbits⟩, nextTxBit_of_more (s := s.drive .scl true) hmore]
    rfl
  · rw [State.AtPhase.write_two ⟨hb, ho, hp, hbits⟩, nextTxBit_of_last (s := s.drive .scl true) hlast]
    rfl

/-! ### One bit, and the byte -/

/-- The block after the three phases of one bit of WRITE_BYTE: the bit on the data latch, the clock high, and the bookkeeping done. -/
def State.sendBit (s : State) : State := nextTxBit ((s.drive .sda s.txBit).drive .scl true)

theorem State.sendBit_of_more {s : State} (h : s.bitcnt ≠ 1#6) :
    s.sendBit = { s with sclOut := true, sdaOut := s.txBit, txsh := s.txsh <<< 1, bitcnt := s.bitcnt - 1#6, phase := 0#4, tocnt := 0 } :=
  nextTxBit_of_more (s := (s.drive .sda s.txBit).drive .scl true) h

theorem State.sendBit_of_last {s : State} (h : s.bitcnt = 1#6) :
    s.sendBit = { s with sclOut := true, sdaOut := s.txBit, txsh := s.txsh <<< 1, bitcnt := 0#6, busy := false, phase := 0#4, tocnt := 0 } :=
  nextTxBit_of_last (s := (s.drive .sda s.txBit).drive .scl true) h

/-- After a bit that is not the last the next one begins. -/
theorem State.AtPhase.sendBit {s : State} (h : s.AtPhase 0x3#4 0#4) (hmore : 2 ≤ s.bitcnt.toNat) : s.sendBit.AtPhase 0x3#4 0#4 := by
  have le : s.bitcnt - 1#6 ≤ 40#6 := by
    have := h.bitcnt_le
    bv_omega
  rw [State.sendBit_of_more (by bv_omega)]
  exact ⟨h.busy, h.opr, rfl, le⟩

section sendBit
variable (s : State)

@[simp] theorem State.sendBit_sdaOut : s.sendBit.sdaOut = s.txBit := by simp [State.sendBit]
@[simp] theorem State.sendBit_txsh : s.sendBit.txsh = s.txsh <<< 1 := by simp [State.sendBit, shiftOut]
@[simp] theorem State.sendBit_bitcnt : s.sendBit.bitcnt = s.bitcnt - 1#6 := by simp [State.sendBit]
@[simp] theorem State.sendBit_inputAt (k : Nat) : s.sendBit.inputAt k = s.inputAt k := by simp [State.sendBit]

end sendBit

/-- The bookkeeping writes no latch. -/
theorem nextTxBit_latches (s : State) : (nextTxBit s).latches = s.latches := by
  obtain ⟨_, _, _, h⟩ := nextTxBit_writes s
  rw [h]
  rfl

/-- One bit of WRITE_BYTE: clock low, data, clock high (R133). -/
theorem State.AtPhase.sendBit_shows {s : State} (h : s.AtPhase 0x3#4 0#4) (hr : NoReset 3 s) :
    RunShows s [(false, s.sdaOut), (false, s.txBit), (true, s.txBit)] (s.sendBit.skipTicks 3) := by
  refine h.shows_drive hr h.write_zero fun h hr => h.shows_drive hr h.write_one fun h hr => ?_
  refine .phase h.busy hr h.write_two (nextTxBit_latches _) fun _ => .of_eq ?_
  rcases eq_or_ne s.bitcnt 1#6 with hlast | hmore
  · rw [s.sendBit_of_last hlast, nextTxBit_of_last (by exact hlast)]
    simp [State.drive, State.setPhase, State.txBit, State.nextTick_eq_skipTicks, State.skipTicks]
  · rw [s.sendBit_of_more hmore, nextTxBit_of_more (by exact hmore)]
    simp [State.drive, State.setPhase, State.txBit, State.nextTick_eq_skipTicks, State.skipTicks]

/-- The first bits of a byte: its top bit, then those of the byte shifted (20_memory.md R71). -/
theorem take_succ_ser8 (v : Byte) {n : Nat} (hn : n < 8) : (ser8 v).take (n + 1) = v.getLsbD 7 :: (ser8 (v <<< 1)).take n := by
  have shifted : (ser8 (v <<< 1)).take 7 = (ser8 v).tail := by simp [ser8]
  calc (ser8 v).take (n + 1) = v.getLsbD 7 :: (ser8 v).tail.take n := rfl
    _ = v.getLsbD 7 :: (ser8 (v <<< 1)).take n := by rw [← shifted, List.take_take, Nat.min_eq_left (by omega)]

/-- The block at the end of WRITE_BYTE, as it is when `n + 1` bits are left of it. -/
def State.byteSent (s : State) (n : Nat) : State :=
  { s with sclOut := true, sdaOut := s.txsh.getLsbD (7 - n), busy := false, phase := 0#4, bitcnt := 0#6, txsh := s.txsh <<< (n + 1), tocnt := 0 }

/-- Sending one bit and then the `n + 1` after it is sending `n + 2`. -/
theorem State.byteSent_sendBit {s : State} {n : Nat} (hn : n + 1 < 8) (hmore : s.bitcnt ≠ 1#6) : s.sendBit.byteSent n = s.byteSent (n + 1) := by
  have bit : (s.txsh <<< 1).getLsbD (7 - n) = s.txsh.getLsbD (7 - (n + 1)) := by
    have range : 7 - n < 8 ∧ ¬7 - n < 1 := by omega
    simp only [BitVec.getLsbD_shiftLeft, range, decide_true, decide_false, Bool.not_false, Bool.true_and, Nat.sub_sub]
  have shift : s.txsh <<< 1 <<< (n + 1) = s.txsh <<< (n + 1 + 1) := by rw [← BitVec.shiftLeft_add, Nat.add_comm]
  rw [State.sendBit_of_more hmore]
  simp only [State.byteSent, bit, shift]

/-- WRITE_BYTE with `n + 1` bits left: they go out from the top of `TXSH` down, and the command completes. -/
theorem State.AtPhase.byteSent_shows {n : Nat} (hn : n < 8) {s : State} (h : s.AtPhase 0x3#4 0#4) (hcount : s.bitcnt.toNat = n + 1)
    (hr : NoReset (3 * (n + 1)) s) :
    RunShows s (writeByteTrace s.sdaOut ((ser8 s.txsh).take (n + 1))) ((s.byteSent n).skipTicks (3 * (n + 1))) := by
  induction n generalizing s with
  | zero =>
    have ending : s.sendBit = s.byteSent 0 := State.sendBit_of_last (BitVec.eq_of_toNat_eq hcount)
    exact ending ▸ h.sendBit_shows hr
  | succ n ih =>
    have hmore : s.bitcnt ≠ 1#6 := by bv_omega
    have count : (s.sendBit.skipTicks 3).bitcnt.toNat = n + 1 := by
      rw [State.skipTicks_bitcnt, State.sendBit_bitcnt]
      bv_omega
    have ticks : 3 * (n + 1 + 1) = 3 + 3 * (n + 1) := by omega
    rw [ticks] at hr ⊢
    have first := h.sendBit_shows fun k hk => hr k (by omega)
    have rest := ih (by omega) ((h.sendBit (by omega)).skipTicks 3) count (noReset_skipTicks hr s.sendBit_inputAt)
    rw [State.skipTicks_sdaOut, State.sendBit_sdaOut, State.skipTicks_txsh, State.sendBit_txsh] at rest
    rw [take_succ_ser8 s.txsh hn, ← State.skipTicks_skipTicks, ← State.byteSent_sendBit hn hmore]
    exact first.append rest

/-- The data at the rises of the clock are the bits, whatever the levels before are (R133). -/
theorem dataAtRises_writeByteTrace (c d : Bool) (bits : List Bool) : dataAtRises c (writeByteTrace d bits) = bits := by
  induction bits generalizing c d with
  | nil => rfl
  | cons b rest ih => simp [writeByteTrace, dataAtRises, ih]

/-- Settles O24: the acceptance tick, then the eight bits by `State.AtPhase.byteSent_shows`. -/
theorem writeByteRunsToCompletion : Obligations.WriteByteRunsToCompletion := by
  intro s v hb hr
  have whole := (s.accept_atPhase (.writeByte v) (show 8#6 ≤ 40#6 by decide)).byteSent_shows (n := 7) (by decide) rfl
    (noReset_nextTick hr (s.accept_inputAt · (.writeByte v)))
  refine ⟨s.accept (.writeByte v), exec_of_idle (.writeByte v) hb, rfl, whole.busTrace_eq rfl, ?_, (whole.run_eq rfl).trans ?_⟩
  · exact (congrArg _ (whole.busTrace_eq rfl)).trans (dataAtRises_writeByteTrace _ _ _)
  · have shiftedOut : v <<< 8 = 0x00#8 := BitVec.shiftLeft_eq_zero le_rfl
    rw [State.skipTicks_succ _ 24, ← shiftedOut]
    rfl

end Sys2Proof.Machine
end

section
/-! WAIT_ACK (40_bus_master.md R137 to R143): its phases and the outcomes of a poll as rules, then the run of polls that ends with an acknowledge. -/

namespace Sys2Proof.Machine

/-! ### The outcomes of a poll (20_memory.md R67) -/

section poll
variable {s : State} {l : InLine} {v : Bool} {limit : Option Nat} {code : Err} {nxt : Successor}

theorem State.waitWhile_of_met (h : s.sample l ≠ v) : s.waitWhile l v limit code nxt = s.moveOn nxt := if_neg h

theorem State.waitWhile_of_missed (h : s.sample l = v) : s.waitWhile l v limit code nxt = s.pollMiss limit code := if_pos h

theorem State.pollMiss_none : s.pollMiss none code = s := rfl

theorem State.pollMiss_last {n : Nat} (h : n ≤ s.tocnt + 1) : s.pollMiss (some n) code = s.fail code := if_pos h

/-- A poll before the last counts, and no bit of the count is lost (00_scope.md R12). -/
theorem State.pollMiss_counts {n : Nat} (h : s.tocnt + 1 < n) (hfits : n < 2 ^ s.cfg.tocntW) :
    s.pollMiss (some n) code = { s with tocnt := s.tocnt + 1 } := by
  have keep : (s.tocnt + 1) % 2 ^ s.cfg.tocntW = s.tocnt + 1 := Nat.mod_eq_of_lt (by omega)
  have more : ¬n ≤ s.tocnt + 1 := by omega
  rw [State.pollMiss, if_neg more, State.countPoll, keep]

/-- An unsuccessful poll that does not reach the limit changes `TOCNT` at most, and counts it up by no more than 1. -/
theorem State.pollMiss_of_belowLimit (hfits : timeoutFits s.cfg.tocntW limit = true) (h : belowLimit limit (s.tocnt + 1) = true) :
    ∃ c ≤ s.tocnt + 1, s.pollMiss limit code = { s with tocnt := c } := by
  cases limit with
  | none => exact ⟨s.tocnt, by omega, rfl⟩
  | some n =>
    have more : s.tocnt + 1 < n := by simpa [belowLimit] using h
    obtain ⟨_, fits⟩ : 1 ≤ n ∧ n < 2 ^ s.cfg.tocntW := by simpa [timeoutFits] using hfits
    exact ⟨s.tocnt + 1, le_rfl, State.pollMiss_counts more fits⟩

theorem belowLimit_mono {m n : Nat} (h : belowLimit limit n = true) (hle : m ≤ n) : belowLimit limit m = true := by
  cases limit with
  | none => rfl
  | some k =>
    simp only [belowLimit, decide_eq_true_eq] at h ⊢
    omega

end poll

/-! ### The phases (R140 to R142) -/

section
variable {s : State}

theorem State.AtPhase.ack_zero (h : s.AtPhase 0x4#4 0#4) : runPhase s = .next ((s.drive .sda true).setPhase 1#4) := by
  simp [runPhase_of_waitAck h.opr h.bitcnt_le, waitAckPhase, h.phase]

theorem State.AtPhase.ack_one (h : s.AtPhase 0x4#4 1#4) : runPhase s = .next ((s.drive .scl true).setPhase 2#4) := by
  simp [runPhase_of_waitAck h.opr h.bitcnt_le, waitAckPhase, h.phase]

theorem State.AtPhase.ack_two (h : s.AtPhase 0x4#4 2#4) :
    runPhase s = .next (s.waitWhile .sda true s.cfg.ackTimeout .busAckTimeout .done) := by
  simp [runPhase_of_waitAck h.opr h.bitcnt_le, waitAckPhase, h.phase]

/-- The poll that sees the line low completes the command (R142). -/
theorem State.AtPhase.ack_met (h : s.AtPhase 0x4#4 2#4) (hlow : s.input.sdaI = false) : runPhase s = .next s.complete := by
  have level : s.sample .sda ≠ true := ne_true_of_eq_false hlow
  rw [h.ack_two, State.waitWhile_of_met level, State.moveOn_done]

theorem State.AtPhase.ack_missed (h : s.AtPhase 0x4#4 2#4) (hhigh : s.input.sdaI = true) :
    runPhase s = .next (s.pollMiss s.cfg.ackTimeout .busAckTimeout) := by
  rw [h.ack_two, State.waitWhile_of_missed (by exact hhigh)]

end

/-- Settles O16: one rule a phase, and the poll by its outcome. -/
theorem waitAckPhaseByPhase : Obligations.WaitAckPhaseByPhase := by
  intro s hb ho hbits
  rw [exec_of_busy .waitAck hb]
  have poll : s.phase = 2#4 → s.AtPhase 0x4#4 2#4 := fun hp => ⟨hb, ho, hp, hbits⟩
  refine ⟨fun hp => State.AtPhase.ack_zero ⟨hb, ho, hp, hbits⟩, fun hp => State.AtPhase.ack_one ⟨hb, ho, hp, hbits⟩,
    fun hp hlow => (poll hp).ack_met hlow, fun hp hhigh hlimit => ?_, fun n hp hhigh hlimit hlast => ?_,
    fun n hp hhigh hlimit hmore hfits => ?_⟩
  · rw [(poll hp).ack_missed hhigh, hlimit, State.pollMiss_none]
  · rw [(poll hp).ack_missed hhigh, hlimit, State.pollMiss_last hlast]
    rfl
  · rw [(poll hp).ack_missed hhigh, hlimit, State.pollMiss_counts hmore hfits]

/-! ### The whole command -/

/-- `p` polls that see the line high and one that sees it low, with no limit reached: the latches stay, and the command completes. -/
theorem State.AtPhase.ack_polls_show {p : Nat} {s : State} (h : s.AtPhase 0x4#4 2#4) (hcfg : s.cfg.wf = true)
    (hlimit : belowLimit s.cfg.ackTimeout (s.tocnt + p) = true) (hr : NoReset (p + 1) s)
    (hhigh : ∀ k < p, (s.inputAt k).sdaI = true) (hlow : (s.inputAt p).sdaI = false) :
    RunShows s (List.replicate (p + 1) s.latches) (s.complete.skipTicks (p + 1)) := by
  induction p generalizing s with
  | zero => exact .phase h.busy hr (h.ack_met hlow) rfl fun _ => .of_eq (State.nextTick_eq_skipTicks _)
  | succ p ih =>
    obtain ⟨fits, _⟩ := Params.timeouts_fit hcfg
    obtain ⟨c, hc, missed⟩ := s.pollMiss_of_belowLimit (code := .busAckTimeout) fits (belowLimit_mono hlimit (by omega))
    have first : runPhase s = .next { s with tocnt := c } := by rw [h.ack_missed (hhigh 0 (by omega)), missed]
    have below : belowLimit s.cfg.ackTimeout (c + p) = true := belowLimit_mono hlimit (by omega)
    rw [State.skipTicks_succ _ (p + 1)]
    refine .phase h.busy hr first rfl fun hr => ih (s := ({ s with tocnt := c } : State).nextTick) ?_ hcfg below hr (fun k hk => ?_) ?_
    · exact ⟨h.busy, h.opr, h.phase, h.bitcnt_le⟩
    · rw [State.nextTick_inputAt]
      exact hhigh (k + 1) (by omega)
    · rw [State.nextTick_inputAt]
      exact hlow

/-- WAIT_ACK from its phase 0: the data line released, the clock high, and the polls (R140 to R142). -/
theorem State.AtPhase.ack_shows {p : Nat} {s : State} (h : s.AtPhase 0x4#4 0#4) (hcfg : s.cfg.wf = true)
    (hlimit : belowLimit s.cfg.ackTimeout p = true) (hr : NoReset (p + 3) s) (hhigh : ∀ k < p, (s.inputAt (k + 2)).sdaI = true)
    (hlow : (s.inputAt (p + 2)).sdaI = false) :
    RunShows s ((s.sclOut, true) :: (true, true) :: List.replicate (p + 1) (true, true))
      (({ s with sclOut := true, sdaOut := true, busy := false, phase := 0#4, tocnt := 0 } : State).skipTicks (p + 3)) := by
  refine h.shows_drive hr h.ack_zero fun h hr => h.shows_drive hr h.ack_one fun h hr => ?_
  have polls := h.ack_polls_show hcfg (by simpa using hlimit) hr (by simpa using hhigh) (by simpa using hlow)
  rw [State.skipTicks_succ _ (p + 2), State.skipTicks_succ _ (p + 1)]
  exact polls

/-- A level that lasts is seen once (00_scope.md R15). -/
theorem unstutter_replicate (x y : Bool × Bool) (n : Nat) : unstutter (x :: List.replicate (n + 1) y) = unstutter [x, y] := by
  have lasts : ∀ n, List.destutter' (· ≠ ·) y (List.replicate n y) = [y] := by
    intro n
    induction n with
    | zero => rfl
    | succ n ih => rw [List.replicate_succ, List.destutter'_cons_neg _ (by simp), ih]
  by_cases hxy : x = y
  · subst hxy
    simp [unstutter, List.destutter_cons', List.replicate_succ, lasts]
  · simp [unstutter, List.destutter_cons', List.replicate_succ, lasts, hxy]

/-- Settles O25: the acceptance tick, then the three phases by `State.AtPhase.ack_shows`; all latches after the first are high. -/
theorem waitAckRunsToCompletion : Obligations.WaitAckRunsToCompletion := by
  intro s p hb hbits hcfg hlimit hr hhigh hlow
  have whole := (State.accept_atPhase .waitAck hbits).ack_shows hcfg hlimit (noReset_nextTick hr (s.accept_inputAt · .waitAck))
    (by simpa using hhigh) (by simpa using hlow)
  have length_eq : ((s.sclOut, true) :: (true, true) :: List.replicate (p + 1) (true, true)).length = p + 3 := by simp
  refine ⟨s.accept .waitAck, exec_of_idle .waitAck hb, rfl, ?_, (whole.run_eq length_eq).trans ?_⟩
  · rw [whole.busTrace_eq length_eq]
    exact unstutter_replicate _ _ (p + 1)
  · rw [State.skipTicks_succ _ (p + 3)]
    rfl

end Sys2Proof.Machine
end

section
/-! The phases of SENSOR_READ as rules (41_sensor_engine.md R163 to R173): one for the five phases that poll the sensor line, one for the two that wait for a
delay, and one for each of the other four. -/

namespace Sys2Proof.Machine

/-! ### The polling phases by what tells them apart -/

/-- The level a polling phase waits on: phases 4 and 6 wait while the line is low, phases 3, 5 and 9 while it is high (R166 to R169, R172). -/
def waitedLevel (p : BitVec 4) : Bool := !(p == 4#4 || p == 6#4)

/-- The code a polling phase fails with: that of the handshake in phases 3 to 5, that of a bit in phases 6 and 9 (60_exceptions.md R242, R244). -/
def timeoutCode (p : BitVec 4) : Err := if p = 6#4 ∨ p = 9#4 then .sensorBitTimeout else .sensorHandshakeTimeout

/-- The phase after a polling phase: the next one, and after phase 9 Done or the next bit (R172). -/
def phaseAfterPoll (p : BitVec 4) (bitcnt : BitVec 6) : BitVec 4 :=
  if p = 9#4 then if bitcnt = 40#6 then 10#4 else 6#4 else p + 1#4

theorem sensorPolls_iff {p : BitVec 4} : sensorPolls p = true ↔ p = 3#4 ∨ p = 4#4 ∨ p = 5#4 ∨ p = 6#4 ∨ p = 9#4 := by
  simp [sensorPolls, or_assoc]

theorem afterBit_eq (s : State) : afterBit s = .phase (phaseAfterPoll 9#4 s.bitcnt) := by
  rcases afterBit_cases s with ⟨h, e⟩ | ⟨h, e⟩ <;> simp [e, phaseAfterPoll, h]

theorem sensorReadPhase_of_poll {s : State} (hp : sensorPolls s.phase = true) :
    sensorReadPhase s = .next (sensorWait s (waitedLevel s.phase) (timeoutCode s.phase) (.phase (phaseAfterPoll s.phase s.bitcnt))) := by
  rcases sensorPolls_iff.1 hp with e | e | e | e | e
  · simp [sensorReadPhase, e, waitedLevel, timeoutCode, phaseAfterPoll]
  · simp [sensorReadPhase, e, waitedLevel, timeoutCode, phaseAfterPoll]
  · simp [sensorReadPhase, e, waitedLevel, timeoutCode, phaseAfterPoll]
  · simp [sensorReadPhase, e, waitedLevel, timeoutCode, phaseAfterPoll]
  · simp [sensorReadPhase, e, waitedLevel, timeoutCode, afterBit_eq]

/-! ### One tick at a phase -/

section
variable {s : State} {p : BitVec 4}

theorem State.AtPhase.sensor_zero (h : s.AtPhase 0x8#4 0#4) : runPhase s = .next (s.driveLow.setPhase 1#4) := by
  simp [runPhase_of_sensor h.opr h.bitcnt_le, sensorReadPhase, h.phase]

theorem State.AtPhase.sensor_two (h : s.AtPhase 0x8#4 2#4) : runPhase s = .next (s.release.setPhase 3#4) := by
  simp [runPhase_of_sensor h.opr h.bitcnt_le, sensorReadPhase, h.phase]

theorem State.AtPhase.sensor_eight (h : s.AtPhase 0x8#4 8#4) : runPhase s = .next ((takeBit s).setPhase 9#4) := by
  simp [runPhase_of_sensor h.opr h.bitcnt_le, sensorReadPhase, h.phase]

theorem State.AtPhase.sensor_ten (h : s.AtPhase 0x8#4 10#4) : runPhase s = .next ({ s with rvalid := true } : State).complete := by
  simp [runPhase_of_sensor h.opr h.bitcnt_le, sensorReadPhase, h.phase]

theorem State.AtPhase.sensor_delay (h : s.AtPhase 0x8#4 p) (hp : p = 1#4 ∨ p = 7#4) : runPhase s = .next (s.delay (p + 1#4)) := by
  rcases hp with rfl | rfl <;> simp [runPhase_of_sensor h.opr h.bitcnt_le, sensorReadPhase, h.phase]

theorem State.AtPhase.sensor_delayEnds (h : s.AtPhase 0x8#4 p) (hp : p = 1#4 ∨ p = 7#4) (hd : s.input.dlyDone = true) :
    runPhase s = .next (s.setPhase (p + 1#4)) := by
  rw [h.sensor_delay hp, State.delay, if_pos hd]

theorem State.AtPhase.sensor_delayHolds (h : s.AtPhase 0x8#4 p) (hp : p = 1#4 ∨ p = 7#4) (hd : s.input.dlyDone = false) :
    runPhase s = .next s := by
  rw [h.sensor_delay hp, State.delay, if_neg (by simp [hd])]

theorem State.AtPhase.sensor_poll (h : s.AtPhase 0x8#4 p) (hp : sensorPolls p = true) :
    runPhase s = .next (sensorWait s (waitedLevel p) (timeoutCode p) (.phase (phaseAfterPoll p s.bitcnt))) := by
  obtain rfl := h.phase
  rw [runPhase_of_sensor h.opr h.bitcnt_le, sensorReadPhase_of_poll hp]

/-- The poll that sees the level change goes on (20_memory.md R67). -/
theorem State.AtPhase.sensor_met (h : s.AtPhase 0x8#4 p) (hp : sensorPolls p = true) (hdq : s.input.dqI ≠ waitedLevel p) :
    runPhase s = .next (s.setPhase (phaseAfterPoll p s.bitcnt)) := by
  rw [h.sensor_poll hp, sensorWait, State.waitWhile_of_met (by exact hdq), State.moveOn_phase]

theorem State.AtPhase.sensor_missed (h : s.AtPhase 0x8#4 p) (hp : sensorPolls p = true) (hdq : s.input.dqI = waitedLevel p) :
    runPhase s = .next (s.pollMiss s.cfg.sensorTimeout (timeoutCode p)) := by
  rw [h.sensor_poll hp, sensorWait, State.waitWhile_of_missed (by exact hdq)]

/-- The three outcomes of a missed poll as whole next states: spin, fail, count. -/
theorem State.AtPhase.sensor_missed_outcomes (h : s.AtPhase 0x8#4 p) (hp : sensorPolls p = true) (hdq : s.input.dqI = waitedLevel p) :
    (s.cfg.sensorTimeout = none → runPhase s = .next s) ∧
    (∀ n, s.cfg.sensorTimeout = some n → n ≤ s.tocnt + 1 →
      runPhase s = .next { s with err := timeoutCode p, busy := false, phase := 0#4, tocnt := 0 }) ∧
    (∀ n, s.cfg.sensorTimeout = some n → s.tocnt + 1 < n → n < 2 ^ s.cfg.tocntW → runPhase s = .next { s with tocnt := s.tocnt + 1 }) := by
  rw [h.sensor_missed hp hdq]
  refine ⟨fun hlimit => ?_, fun n hlimit hlast => ?_, fun n hlimit hmore hfits => ?_⟩
  · rw [hlimit, State.pollMiss_none]
  · rw [hlimit, State.pollMiss_last hlast]
    rfl
  · rw [hlimit, State.pollMiss_counts hmore hfits]

/-- The delay request on the ports (10_state.md R23): `dly_sel` tells the sample delay of phase 7 from the request delay of phase 1. -/
theorem State.AtPhase.sensor_delayRequest (h : s.AtPhase 0x8#4 p) (hp : p = 1#4 ∨ p = 7#4) :
    s.outputs.dlyReq = true ∧ s.outputs.dlySel = (p == 7#4) := by
  rcases hp with rfl | rfl <;> simp [State.outputs, State.dlyReq, State.dlySel, h.busy, h.opr, h.phase]

end

/-! ### The four statements -/

/-- Settles O17: one rule a phase, and the delay by its answer. -/
theorem sensorRequestPhaseByPhase : Obligations.SensorRequestPhaseByPhase := by
  intro s hb ho hbits
  rw [exec_of_busy .sensorRead hb]
  have at_phase {p : BitVec 4} (hp : s.phase = p) : s.AtPhase 0x8#4 p := ⟨hb, ho, hp, hbits⟩
  exact ⟨fun hp => (at_phase hp).sensor_zero, fun hp => (at_phase hp).sensor_delayRequest (.inl rfl),
    fun hp hd => (at_phase hp).sensor_delayHolds (.inl rfl) hd, fun hp hd => (at_phase hp).sensor_delayEnds (.inl rfl) hd,
    fun hp => (at_phase hp).sensor_two⟩

/-- Settles O18: the polls by their outcomes; phases 3 to 5 wait on the level `p ≠ 4`, with the code of the handshake. -/
theorem sensorHandshakePhaseByPhase : Obligations.SensorHandshakePhaseByPhase := by
  intro s p hb ho hbits hp hphase
  rw [exec_of_busy .sensorRead hb]
  have at_phase : s.AtPhase 0x8#4 p := ⟨hb, ho, hphase, hbits⟩
  have polls : sensorPolls p = true := sensorPolls_iff.2 (by tauto)
  have level : waitedLevel p = !(p == 4#4) := by rcases hp with rfl | rfl | rfl <;> rfl
  have code : timeoutCode p = .sensorHandshakeTimeout := by rcases hp with rfl | rfl | rfl <;> rfl
  have next : phaseAfterPoll p s.bitcnt = p + 1#4 := by rcases hp with rfl | rfl | rfl <;> rfl
  by_cases hdq : s.input.dqI = (p == 4#4)
  · have met := at_phase.sensor_met polls (by simp [hdq, level])
    rw [next] at met
    exact ⟨fun _ => met, fun hne => absurd hdq hne, fun _ hne => absurd hdq hne, fun _ hne => absurd hdq hne⟩
  · have missed : s.input.dqI = waitedLevel p := level ▸ Bool.eq_not_of_ne hdq
    obtain ⟨spins, fails, counts⟩ := at_phase.sensor_missed_outcomes polls missed
    rw [code] at fails
    exact ⟨fun heq => absurd heq hdq, fun _ => spins, fun n _ => fails n, fun n _ => counts n⟩

/-- Settles O19: the polls by their outcomes, the delay by its answer, and the shift of phase 8 as arithmetic (`shiftIn_toNat`). -/
theorem sensorBitPhaseByPhase : Obligations.SensorBitPhaseByPhase := by
  intro s hb ho hbits
  rw [exec_of_busy .sensorRead hb]
  have at_phase {p : BitVec 4} (hp : s.phase = p) : s.AtPhase 0x8#4 p := ⟨hb, ho, hp, hbits⟩
  refine ⟨fun hp hdq => (at_phase hp).sensor_met rfl (by simp [hdq, waitedLevel]), fun hp => (at_phase hp).sensor_delayRequest (.inr rfl),
    fun hp hd => (at_phase hp).sensor_delayHolds (.inr rfl) hd, fun hp hd => (at_phase hp).sensor_delayEnds (.inr rfl) hd,
    fun hp => ⟨shiftIn s.rxsh s.input.dqI, (at_phase hp).sensor_eight, shiftIn_toNat _ _⟩, fun hp hdq hmore => ?_, fun hp hdq hlast => ?_, ?_⟩
  · have met := (at_phase hp).sensor_met rfl (by simp [hdq, waitedLevel])
    rwa [phaseAfterPoll, if_pos rfl, if_neg hmore] at met
  · have met := (at_phase hp).sensor_met rfl (by simp [hdq, waitedLevel])
    rwa [phaseAfterPoll, if_pos rfl, if_pos hlast] at met
  · rintro (⟨hp, hdq⟩ | ⟨hp, hdq⟩)
    · exact (at_phase hp).sensor_missed_outcomes rfl hdq
    · exact (at_phase hp).sensor_missed_outcomes rfl hdq

/-- Settles O20. -/
theorem sensorDonePhase : Obligations.SensorDonePhase := by
  intro s hb ho hbits hp
  rw [exec_of_busy .sensorRead hb, State.AtPhase.sensor_ten ⟨hb, ho, hp, hbits⟩]
  rfl

end Sys2Proof.Machine
end

section
/-! What SENSOR_READ keeps whatever its inputs are (41_sensor_engine.md R171 to R174, R180): `RXSH` and `BITCNT` hold the samples taken so far, and the command
ends with a valid reading of forty of them or with an error. -/

namespace Sys2Proof.Machine

/-! ### The samples in the shift register -/

/-- A sample shifted in is one more bit packed (20_memory.md R71). -/
theorem shiftIn_ofNat_pack (bits : List Bool) (b : Bool) :
    shiftIn (BitVec.ofNat 40 (pack bits)) b = BitVec.ofNat 40 (pack (bits ++ [b])) := by
  apply BitVec.eq_of_toNat_eq
  rw [shiftIn_toNat, BitVec.toNat_ofNat, BitVec.toNat_ofNat, pack_append_singleton]
  omega

/-- The block's shift register holds these samples, and `BITCNT` counts them. -/
structure State.HoldsSamples (s : State) (bits : List Bool) : Prop where
  rxsh   : s.rxsh = BitVec.ofNat 40 (pack bits)
  bitcnt : s.bitcnt.toNat = bits.length

/-- The sample phase 8 takes on this tick, none in any other state. -/
def State.sampleTaken (s : State) : List Bool := if s.busy && s.opr == 0x8#4 && s.phase == 8#4 then [s.input.dqI] else []

theorem samplesOver_succ (n : Nat) {s t : State} (h : step s = .next t) : samplesOver (n + 1) s = s.sampleTaken ++ samplesOver n t :=
  samplesOver_succ_of_next n h

/-! ### The command in progress and ended -/

/-- SENSOR_READ in progress, without the conditions on the parameters that `State.SensorInv` makes: no error yet, no reading yet, room for
the bits to come, and forty of them at Done. -/
structure State.ReadRunning (s : State) : Prop where
  busy   : s.busy = true
  opr    : s.opr = 0x8#4
  err    : s.err = .none
  rvalid : s.rvalid = false
  room   : s.bitcnt < 40#6 ∨ s.bitcnt = 40#6 ∧ (s.phase = 9#4 ∨ s.phase = 10#4)
  done   : s.phase = 10#4 → s.bitcnt = 40#6

/-- SENSOR_READ ended: with a valid reading of forty bits, or with an error and none. -/
structure State.ReadEnded (s : State) : Prop where
  idle    : s.busy = false
  outcome : (s.rvalid = true ∧ s.err = .none ∧ s.bitcnt = 40#6) ∨ (s.rvalid = false ∧ s.err ≠ .none)

theorem State.ReadRunning.nextTick {s : State} (h : s.ReadRunning) : s.nextTick.ReadRunning := ⟨h.busy, h.opr, h.err, h.rvalid, h.room, h.done⟩

theorem State.ReadEnded.nextTick {s : State} (h : s.ReadEnded) : s.nextTick.ReadEnded := ⟨h.idle, h.outcome⟩

/-- The tick after the acceptance of SENSOR_READ begins with no bit taken (R162). -/
theorem State.accept_readRunning (s : State) : (s.accept .sensorRead).ReadRunning :=
  ⟨rfl, rfl, rfl, rfl, .inl (by simp [State.accept]), by simp [State.accept]⟩

section
variable {s t : State} (h : s.ReadRunning)
include h

theorem State.ReadRunning.bitcnt_le : s.bitcnt ≤ 40#6 := by
  rcases h.room with hlt | ⟨heq, _⟩
  · exact BitVec.le_of_lt hlt
  · rw [heq]
    decide

/-- Outside phases 9 and 10 there is room for another bit. -/
theorem State.ReadRunning.bitcnt_lt (h9 : s.phase ≠ 9#4) (h10 : s.phase ≠ 10#4) : s.bitcnt < 40#6 := by
  simpa [h9, h10] using h.room

theorem State.ReadRunning.fail {code : Err} (hcode : code ≠ .none) : (s.fail code).ReadEnded := ⟨rfl, .inr ⟨h.rvalid, hcode⟩⟩

/-- A wait stays in progress if its successor is, or fails. -/
theorem State.ReadRunning.sensorWait_outcome {q : BitVec 4} (hnext : (s.setPhase q).ReadRunning) (v : Bool) {code : Err} (hcode : code ≠ .none) :
    (sensorWait s v code (.phase q)).ReadRunning ∨ (sensorWait s v code (.phase q)).ReadEnded := by
  unfold sensorWait
  rcases s.waitWhile_cases .dq v s.cfg.sensorTimeout code (.phase q) with ⟨_, e⟩ | ⟨_, _, e⟩ | ⟨_, _, e⟩ | ⟨_, _, e⟩
  · exact .inl (by rwa [e])
  · exact .inl (by rwa [e])
  · exact .inr (by rw [e]; exact h.fail hcode)
  · exact .inl (by rw [e]; exact ⟨h.busy, h.opr, h.err, h.rvalid, h.room, h.done⟩)

theorem State.ReadRunning.delay {q : BitVec 4} (hnext : (s.setPhase q).ReadRunning) : (s.delay q).ReadRunning := by
  rcases s.delay_cases q with ⟨_, e⟩ | ⟨_, e⟩ <;> rwa [e]

/-- With room for a bit every phase but Done may come next. -/
theorem State.ReadRunning.setPhase_of_room (hlt : s.bitcnt < 40#6) {q : BitVec 4} (hq : q ≠ 10#4) : (s.setPhase q).ReadRunning :=
  ⟨h.busy, h.opr, h.err, h.rvalid, .inl hlt, fun e => absurd e hq⟩

/-- After phase 9 comes Done with forty bits, and the next bit with fewer (R172). -/
theorem State.ReadRunning.setPhase_afterBit : (s.setPhase (phaseAfterPoll 9#4 s.bitcnt)).ReadRunning := by
  by_cases h40 : s.bitcnt = 40#6
  · have e : phaseAfterPoll 9#4 s.bitcnt = 10#4 := by simp [phaseAfterPoll, h40]
    rw [e]
    exact ⟨h.busy, h.opr, h.err, h.rvalid, .inr ⟨h40, .inr rfl⟩, fun _ => h40⟩
  · have e : phaseAfterPoll 9#4 s.bitcnt = 6#4 := by simp [phaseAfterPoll, h40]
    rw [e]
    exact h.setPhase_of_room (BitVec.lt_of_le_ne h.bitcnt_le h40) (by decide)

/-- The bit taken in phase 8 had room (R171). -/
theorem State.ReadRunning.takeBit_setPhase (hp : s.phase = 8#4) : ((takeBit s).setPhase 9#4).ReadRunning := by
  have hlt : s.bitcnt < 40#6 := h.bitcnt_lt (by simp [hp]) (by simp [hp])
  have room : s.bitcnt + 1#6 < 40#6 ∨ s.bitcnt + 1#6 = 40#6 := by bv_omega
  exact ⟨h.busy, h.opr, h.err, h.rvalid, room.imp_right fun heq => ⟨heq, .inl rfl⟩, by simp⟩

/-- A phase of SENSOR_READ goes on with the command or ends it. -/
theorem State.ReadRunning.phase (ht : sensorReadPhase s = .next t) : t.ReadRunning ∨ t.ReadEnded := by
  have room {p : BitVec 4} (hp : s.phase = p) (h9 : p ≠ 9#4) (h10 : p ≠ 10#4) : s.bitcnt < 40#6 := h.bitcnt_lt (hp ▸ h9) (hp ▸ h10)
  have goes {p q : BitVec 4} (hp : s.phase = p) (h9 : p ≠ 9#4) (h10 : p ≠ 10#4) (hq : q ≠ 10#4) : (s.setPhase q).ReadRunning :=
    h.setPhase_of_room (room hp h9 h10) hq
  rcases sensorReadPhase_cases ht with
    ⟨hp, rfl⟩ | ⟨hp, rfl⟩ | ⟨hp, rfl⟩ | ⟨hp, rfl⟩ | ⟨hp, rfl⟩ | ⟨hp, rfl⟩ | ⟨hp, rfl⟩ | ⟨hp, rfl⟩ | ⟨hp, rfl⟩ | ⟨hp, rfl⟩ | ⟨hp, rfl⟩
  · exact .inl ⟨h.busy, h.opr, h.err, h.rvalid, .inl (room hp (by decide) (by decide)), by simp⟩
  · exact .inl (h.delay (goes hp (by decide) (by decide) (by decide)))
  · exact .inl ⟨h.busy, h.opr, h.err, h.rvalid, .inl (room hp (by decide) (by decide)), by simp⟩
  · exact h.sensorWait_outcome (goes hp (by decide) (by decide) (by decide)) _ (by decide)
  · exact h.sensorWait_outcome (goes hp (by decide) (by decide) (by decide)) _ (by decide)
  · exact h.sensorWait_outcome (goes hp (by decide) (by decide) (by decide)) _ (by decide)
  · exact h.sensorWait_outcome (goes hp (by decide) (by decide) (by decide)) _ (by decide)
  · exact .inl (h.delay (goes hp (by decide) (by decide) (by decide)))
  · exact .inl (h.takeBit_setPhase hp)
  · rw [afterBit_eq]
    exact h.sensorWait_outcome h.setPhase_afterBit _ (by decide)
  · exact .inr ⟨rfl, .inl ⟨rfl, h.err, h.done hp⟩⟩

/-- A phase of SENSOR_READ adds the sample it takes to those the block holds. -/
theorem State.ReadRunning.holdsSamples {bits : List Bool} (hold : s.HoldsSamples bits) (ht : sensorReadPhase s = .next t) :
    t.HoldsSamples (bits ++ s.sampleTaken) := by
  obtain ⟨hx, hc⟩ := hold
  obtain ⟨_, ⟨h8, tx, _, tc⟩ | ⟨h10, tx, _, tc⟩ | ⟨h8, _, tx, _, tc⟩⟩ := sensorReadPhase_data ht
  · have taken : s.sampleTaken = [s.input.dqI] := by simp [State.sampleTaken, h.busy, h.opr, h8]
    have le : s.bitcnt ≤ 40#6 := h.bitcnt_le
    have count : (s.bitcnt + 1#6).toNat = bits.length + 1 := by
      rw [← hc]
      bv_omega
    rw [taken]
    exact ⟨by rw [tx, hx, shiftIn_ofNat_pack], by rw [tc, count, List.length_append, List.length_singleton]⟩
  · have taken : s.sampleTaken = [] := by simp [State.sampleTaken, h10]
    rw [taken, List.append_nil]
    exact ⟨tx.trans hx, tc ▸ hc⟩
  · have taken : s.sampleTaken = [] := by simp [State.sampleTaken, h8]
    rw [taken, List.append_nil]
    exact ⟨tx.trans hx, tc ▸ hc⟩

end

/-! ### Any number of ticks -/

/-- What SENSOR_READ keeps over ticks without reset on which it is in progress: what the block holds grows by the samples of those ticks, and neither
the bus latches nor `TXSH` change. -/
theorem read_run {n : Nat} {s u : State} {bits : List Bool} (h : s.ReadRunning ∨ s.ReadEnded) (hold : s.HoldsSamples bits) (hr : NoReset n s)
    (hbusy : ∀ k < n, ∃ w, run k s = .next w ∧ w.busy = true) (hu : run n s = .next u) :
    (u.ReadRunning ∨ u.ReadEnded) ∧ u.HoldsSamples (bits ++ samplesOver n s) ∧ u.latches = s.latches ∧ u.txsh = s.txsh := by
  induction n generalizing s bits with
  | zero =>
    cases hu
    exact ⟨h, by simpa [samplesOver] using hold, rfl, rfl⟩
  | succ n ih =>
    have running : s.ReadRunning := by
      obtain ⟨w, hw, hb⟩ := hbusy 0 (by omega)
      cases hw
      exact h.resolve_right fun ended => by simp [ended.idle] at hb
    obtain ⟨t, ht, hu⟩ := run_succ_eq_next hu
    rw [samplesOver_succ n ht, ← List.append_assoc]
    have hbusy : ∀ k < n, ∃ w, run k t = .next w ∧ w.busy = true := by
      intro k hk
      rw [← run_succ_of_next k ht]
      exact hbusy (k + 1) (by omega)
    obtain ⟨v, hv, rfl⟩ := step_of_sensor (hr 0 (by omega)) running.busy running.opr ht
    have held : v.HoldsSamples (bits ++ s.sampleTaken) := running.holdsSamples hold hv
    obtain ⟨hend, hsamples, hlatches, htxsh⟩ := ih ((running.phase hv).imp State.ReadRunning.nextTick State.ReadEnded.nextTick)
      ⟨held.rxsh, held.bitcnt⟩ (noReset_nextTick hr (sensorReadPhase_inputAt hv)) hbusy hu
    obtain ⟨hscl, hsda⟩ := sensorReadPhase_latches hv
    obtain ⟨hx, _⟩ := sensorReadPhase_data hv
    have latches : v.nextTick.latches = s.latches := Prod.ext hscl hsda
    exact ⟨hend, hsamples, hlatches.trans latches, htxsh.trans hx⟩

/-- Settles O29: `read_run` from the acceptance, with no sample taken; a command that has ended has a valid reading or an error. -/
theorem sensorReadingIsPackOfSamples : Obligations.SensorReadingIsPackOfSamples := by
  intro s t u n hb ht hr hbusy hu
  rw [exec_of_idle .sensorRead hb] at ht
  cases ht
  have start : (s.accept .sensorRead).nextTick.HoldsSamples [] := ⟨rfl, rfl⟩
  obtain ⟨hend, ⟨hx, hc⟩, hlatches, htxsh⟩ := read_run (.inl s.accept_readRunning.nextTick) start hr hbusy hu
  rw [List.nil_append] at hx hc
  refine ⟨hx, hc, ?_, ?_, hlatches, htxsh⟩
  · intro hv
    rcases hend with running | ⟨hidle, ⟨_, herr, h40⟩ | ⟨hnone, _⟩⟩
    · simp [running.rvalid] at hv
    · exact ⟨hidle, herr, by rw [← hc, h40]; rfl⟩
    · simp [hnone] at hv
  · intro hidle herr
    rcases hend with running | ⟨_, ⟨hv, _, _⟩ | ⟨_, hne⟩⟩
    · simp [running.busy] at hidle
    · exact hv
    · exact absurd herr hne

end Sys2Proof.Machine
end

section
/-! SUPPORT. Ticks that meet a list of needs, one a tick: they compose without a word about when they come. -/

namespace Sys2Proof.Machine

/-- Whether the coming ticks meet a list of needs depends on their inputs alone. -/
theorem meets_congr {ns : List Need} {s t : State} (h : ∀ k, t.inputAt k = s.inputAt k) : meets ns t = meets ns s := by
  induction ns generalizing s t with
  | nil => rfl
  | cons need ns ih =>
    have now : t.input = s.input := h 0
    have later : meets ns t.nextTick = meets ns s.nextTick := ih fun k => by simp [h]
    rw [meets, meets, now, later]

theorem meets_cons {need : Need} {ns : List Need} {s : State} :
    meets (need :: ns) s = true ↔ need.metBy s.input = true ∧ s.input.rst = false ∧ meets ns s.nextTick = true := by
  simp [meets, and_assoc]

/-- Whenever the coming ticks meet the needs, and whatever further ones the ticks after them meet, the block's elements go from those of the first
state to those of the second. -/
def LeadsTo (ns : List Need) (s t : State) : Prop :=
  ∀ (k : Nat) (rest : List Need), meets (ns ++ rest) (s.skipTicks k) = true →
    run ns.length (s.skipTicks k) = .next (t.skipTicks (k + ns.length)) ∧ meets rest (t.skipTicks (k + ns.length)) = true

theorem LeadsTo.refl (s : State) : LeadsTo [] s s := fun _ _ h => ⟨rfl, h⟩

theorem LeadsTo.trans {ns ns' : List Need} {s t u : State} (h : LeadsTo ns s t) (h' : LeadsTo ns' t u) : LeadsTo (ns ++ ns') s u := by
  intro k rest hmeets
  rw [List.append_assoc] at hmeets
  obtain ⟨first, hmeets⟩ := h k (ns' ++ rest) hmeets
  obtain ⟨second, hrest⟩ := h' _ rest hmeets
  rw [List.length_append, ← Nat.add_assoc, run_add _ _ first]
  exact ⟨second, hrest⟩

/-- One tick of a phase in progress. -/
theorem LeadsTo.phase {need : Need} {s t : State} (hb : s.busy = true)
    (h : ∀ k, need.metBy (s.skipTicks k).input = true → runPhase (s.skipTicks k) = .next (t.skipTicks k)) : LeadsTo [need] s t := by
  intro k rest hmeets
  obtain ⟨hneed, hr, hrest⟩ := meets_cons.1 hmeets
  have tick : step (s.skipTicks k) = .next (t.skipTicks (k + 1)) := by
    rw [step_of_busy hr hb, h k hneed, endTick_next, State.nextTick_eq_skipTicks, State.skipTicks_skipTicks]
  have inputs : ∀ j, (t.skipTicks (k + 1)).inputAt j = (s.skipTicks k).nextTick.inputAt j := by
    intro j
    rw [← State.skipTicks_skipTicks, ← State.nextTick_eq_skipTicks, State.nextTick_inputAt, State.nextTick_inputAt,
      runPhase_inputAt (h k hneed)]
  exact ⟨run_succ_of_next 0 tick, (meets_congr inputs).trans hrest⟩

/-- A tick that leads to where it began does so any number of times. -/
theorem LeadsTo.replicate {need : Need} {s : State} (h : LeadsTo [need] s s) (n : Nat) : LeadsTo (List.replicate n need) s s := by
  induction n with
  | zero => exact .refl s
  | succ n ih => exact h.trans ih

end Sys2Proof.Machine
end

section
/-! A whole exchange of SENSOR_READ (41_sensor_engine.md R161 to R174): its delays, its waits, one bit, the forty bits, and the command. -/

namespace Sys2Proof.Machine

/-! ### The needs of an exchange, part by part -/

/-- The ticks of a delay that is answered after `n` ticks. -/
def delayNeeds (n : Nat) : List Need := List.replicate n Need.delayHolds ++ [Need.delayEnds]

/-- The ticks of a wait on a level that ends after `n` missed polls. -/
def pollNeeds (level : Bool) (n : Nat) : List Need := List.replicate n (Need.dq level) ++ [Need.dq !level]

theorem BitPlan.needs_eq (b : BitPlan) :
    b.needs = pollNeeds false b.lowPolls ++ (delayNeeds b.delayWaits ++ ([Need.dq b.bit] ++ pollNeeds true b.highPolls)) := by
  simp [BitPlan.needs, pollNeeds, delayNeeds]

theorem BitPlan.length_needs (b : BitPlan) : b.needs.length = b.ticks := by
  simp [BitPlan.needs, BitPlan.ticks]
  omega

/-- The acceptance tick, Requesting, AwaitingResponse, the bits, Done. -/
theorem ReadPlan.needs_eq (p : ReadPlan) :
    p.needs = Need.anything :: (([Need.anything] ++ (delayNeeds p.requestWaits ++ [Need.anything])) ++
      ((pollNeeds true p.answerPolls ++ (pollNeeds false p.responsePolls ++ pollNeeds true p.readyPolls)) ++
      (p.bits.flatMap BitPlan.needs ++ [Need.anything]))) := by
  simp [ReadPlan.needs, pollNeeds, delayNeeds]

/-- The acceptance tick is the one before tick 1 (70_reset_and_hazards.md R301). -/
theorem ReadPlan.length_needs (p : ReadPlan) : p.needs.length = p.lastTick + 1 := by
  have bits : (p.bits.flatMap BitPlan.needs).length = (p.bits.map BitPlan.ticks).sum := by
    simp only [List.length_flatMap, BitPlan.length_needs]
  simp only [ReadPlan.needs, ReadPlan.lastTick, List.length_append, List.length_replicate, List.length_cons, List.length_nil, bits]
  omega

/-! ### The delays and the waits -/

section
variable {s : State} {p : BitVec 4}

/-- A delay, however many ticks it takes (20_memory.md R68). -/
theorem State.AtPhase.delay_leadsTo (h : s.AtPhase 0x8#4 p) (hp : p = 1#4 ∨ p = 7#4) (n : Nat) :
    LeadsTo (delayNeeds n) s (s.setPhase (p + 1#4)) := by
  have holds : LeadsTo [Need.delayHolds] s s :=
    .phase h.busy fun k hd => (h.skipTicks k).sensor_delayHolds hp (by simpa [Need.metBy] using hd)
  exact (holds.replicate n).trans (.phase h.busy fun k hd => (h.skipTicks k).sensor_delayEnds hp hd)

/-- An unsuccessful poll has nothing to do with when it comes. -/
theorem State.pollMiss_skipTicks (s : State) (limit : Option Nat) (code : Err) (k : Nat) :
    (s.skipTicks k).pollMiss limit code = (s.pollMiss limit code).skipTicks k := by
  cases limit with
  | none => rfl
  | some n => exact (apply_ite (State.skipTicks · k) (n ≤ s.tocnt + 1) (s.fail code) s.countPoll).symm

/-- Missed polls that stay below the limit change `TOCNT` at most. -/
theorem State.AtPhase.missedPolls_leadsTo (h : s.AtPhase 0x8#4 p) (hp : sensorPolls p = true)
    (hfits : timeoutFits s.cfg.tocntW s.cfg.sensorTimeout = true) {n : Nat} (hlimit : belowLimit s.cfg.sensorTimeout (s.tocnt + n) = true) :
    ∃ c, LeadsTo (List.replicate n (Need.dq (waitedLevel p))) s { s with tocnt := c } := by
  induction n generalizing s with
  | zero => exact ⟨s.tocnt, .refl s⟩
  | succ n ih =>
    obtain ⟨c, hc, missed⟩ := s.pollMiss_of_belowLimit (code := timeoutCode p) hfits (belowLimit_mono hlimit (by omega))
    obtain ⟨d, rest⟩ := ih (s := { s with tocnt := c }) ⟨h.busy, h.opr, h.phase, h.bitcnt_le⟩ hfits (belowLimit_mono hlimit (by simp; omega))
    have first : LeadsTo [Need.dq (waitedLevel p)] s { s with tocnt := c } := .phase h.busy fun k hdq => by
      rw [(h.skipTicks k).sensor_missed hp (by simpa [Need.metBy] using hdq), State.skipTicks_cfg, State.pollMiss_skipTicks, missed]
    exact ⟨d, first.trans rest⟩

/-- A wait on the sensor line that is answered in time (20_memory.md R67). -/
theorem State.AtPhase.polls_leadTo (h : s.AtPhase 0x8#4 p) (hp : sensorPolls p = true)
    (hfits : timeoutFits s.cfg.tocntW s.cfg.sensorTimeout = true) (hzero : s.tocnt = 0) {n : Nat}
    (hlimit : belowLimit s.cfg.sensorTimeout n = true) :
    LeadsTo (pollNeeds (waitedLevel p) n) s (s.setPhase (phaseAfterPoll p s.bitcnt)) := by
  obtain ⟨c, missed⟩ := h.missedPolls_leadsTo hp hfits (by rwa [hzero, Nat.zero_add])
  have counted : ({ s with tocnt := c } : State).AtPhase 0x8#4 p := ⟨h.busy, h.opr, h.phase, h.bitcnt_le⟩
  exact missed.trans (.phase h.busy fun k hdq => (counted.skipTicks k).sensor_met hp (by simpa [Need.metBy, Bool.eq_not] using hdq))

end

/-! ### The stages of the command -/

/-- SENSOR_READ at a phase, no poll counted, with the samples taken so far: what of the state changes from bit to bit. -/
def State.reading (s : State) (p : BitVec 4) (taken : List Bool) : State :=
  { s with phase := p, tocnt := 0, rxsh := BitVec.ofNat 40 (pack taken), bitcnt := BitVec.ofNat 6 taken.length }

section
variable {s : State} {p q : BitVec 4} {taken : List Bool}

theorem State.AtPhase.reading (h : s.AtPhase 0x8#4 p) (hlen : taken.length ≤ 40) : (s.reading q taken).AtPhase 0x8#4 q := by
  have count : BitVec.ofNat 6 taken.length ≤ 40#6 := by
    rw [BitVec.le_def, BitVec.toNat_ofNat, Nat.mod_eq_of_lt (by omega)]
    exact hlen
  exact ⟨h.busy, h.opr, rfl, count⟩

/-- Requesting: the line taken, the request delay, the line released (R163 to R165). -/
theorem State.AtPhase.request_leadsTo (h : s.AtPhase 0x8#4 0#4) (waits : Nat) :
    LeadsTo ([Need.anything] ++ (delayNeeds waits ++ [Need.anything])) s (s.release.setPhase 3#4) := by
  have low : s.driveLow.AtPhase 0x8#4 0#4 := ⟨h.busy, h.opr, h.phase, h.bitcnt_le⟩
  have take : LeadsTo [Need.anything] s (s.driveLow.setPhase 1#4) := .phase h.busy fun k _ => (h.skipTicks k).sensor_zero
  have hold := (low.setPhase 1#4).delay_leadsTo (.inl rfl) waits
  have free : LeadsTo [Need.anything] (s.driveLow.setPhase 2#4) (s.release.setPhase 3#4) :=
    .phase h.busy fun k _ => ((low.setPhase 2#4).skipTicks k).sensor_two
  exact take.trans (hold.trans free)

/-- AwaitingResponse: high, low, high (R166 to R168). -/
theorem State.AtPhase.handshake_leadsTo (h : s.AtPhase 0x8#4 3#4) (hfits : timeoutFits s.cfg.tocntW s.cfg.sensorTimeout = true)
    (hzero : s.tocnt = 0) {answer response ready : Nat} (ha : belowLimit s.cfg.sensorTimeout answer = true)
    (hs : belowLimit s.cfg.sensorTimeout response = true) (hy : belowLimit s.cfg.sensorTimeout ready = true) :
    LeadsTo (pollNeeds true answer ++ (pollNeeds false response ++ pollNeeds true ready)) s (s.setPhase 6#4) :=
  (h.polls_leadTo rfl hfits hzero ha).trans
    (((h.setPhase 4#4).polls_leadTo rfl hfits rfl hs).trans ((h.setPhase 5#4).polls_leadTo rfl hfits rfl hy))

/-- The tick that takes the sample (R171). -/
theorem State.AtPhase.sample_leadsTo (h : s.AtPhase 0x8#4 p) (hlen : taken.length < 40) (bit : Bool) :
    LeadsTo [Need.dq bit] (s.reading 8#4 taken) (s.reading 9#4 (taken ++ [bit])) := by
  have eight : (s.reading 8#4 taken).AtPhase 0x8#4 8#4 := h.reading (by omega)
  have after : { s.reading 9#4 taken with rxsh := shiftIn (BitVec.ofNat 40 (pack taken)) bit, bitcnt := BitVec.ofNat 6 taken.length + 1#6 } =
      s.reading 9#4 (taken ++ [bit]) := by
    simp [State.reading, shiftIn_ofNat_pack, BitVec.ofNat_add]
  refine .phase h.busy fun k hdq => ?_
  have level : ((s.reading 8#4 taken).skipTicks k).sample .dq = bit := eq_of_beq hdq
  rw [(eight.skipTicks k).sensor_eight, takeBit, level, ← after]
  rfl

/-- One bit, from the wait for its rise to the end of its pulse (R169 to R172). -/
theorem State.AtPhase.bit_leadsTo (h : s.AtPhase 0x8#4 p) (hfits : timeoutFits s.cfg.tocntW s.cfg.sensorTimeout = true)
    (hlen : taken.length < 40) {b : BitPlan} (hlow : belowLimit s.cfg.sensorTimeout b.lowPolls = true)
    (hhigh : belowLimit s.cfg.sensorTimeout b.highPolls = true) :
    LeadsTo b.needs (s.reading 6#4 taken)
      (s.reading (phaseAfterPoll 9#4 (BitVec.ofNat 6 (taken ++ [b.bit]).length)) (taken ++ [b.bit])) := by
  have at_phase (q : BitVec 4) : (s.reading q taken).AtPhase 0x8#4 q := h.reading (by omega)
  have at_nine : (s.reading 9#4 (taken ++ [b.bit])).AtPhase 0x8#4 9#4 := h.reading (by simpa using hlen)
  have rise := (at_phase 6#4).polls_leadTo rfl hfits rfl hlow
  have wait := (at_phase 7#4).delay_leadsTo (.inr rfl) b.delayWaits
  have fall := at_nine.polls_leadTo rfl hfits rfl hhigh
  rw [b.needs_eq]
  exact rise.trans (wait.trans ((h.sample_leadsTo hlen b.bit).trans fall))

/-- The bits that are left, as many as make forty with those taken: each leads to the phase of the next, and the last to Done. -/
theorem State.AtPhase.bits_leadTo (h : s.AtPhase 0x8#4 p) (hfits : timeoutFits s.cfg.tocntW s.cfg.sensorTimeout = true)
    {bits : List BitPlan} (hlen : taken.length + bits.length = 40)
    (hlimit : ∀ b ∈ bits, belowLimit s.cfg.sensorTimeout b.lowPolls = true ∧ belowLimit s.cfg.sensorTimeout b.highPolls = true) :
    LeadsTo (bits.flatMap BitPlan.needs) (s.reading (phaseAfterPoll 9#4 (BitVec.ofNat 6 taken.length)) taken)
      (s.reading 10#4 (taken ++ bits.map BitPlan.bit)) := by
  induction bits generalizing taken with
  | nil =>
    have forty : taken.length = 40 := by simpa using hlen
    rw [forty, List.map_nil, List.append_nil]
    exact .refl _
  | cons b rest ih =>
    rw [List.length_cons] at hlen
    obtain ⟨⟨hlow, hhigh⟩, hrest⟩ := List.forall_mem_cons.1 hlimit
    have more : phaseAfterPoll 9#4 (BitVec.ofNat 6 taken.length) = 6#4 := by
      have : BitVec.ofNat 6 taken.length ≠ 40#6 := by bv_omega
      simp [phaseAfterPoll, this]
    have later := ih (taken := taken ++ [b.bit]) (by simp; omega) hrest
    rw [List.append_assoc, List.singleton_append] at later
    rw [more]
    exact (h.bit_leadsTo hfits (by omega) hlow hhigh).trans later

/-- Done (R173). -/
theorem State.AtPhase.done_leadsTo (h : s.AtPhase 0x8#4 10#4) : LeadsTo [Need.anything] s ({ s with rvalid := true } : State).complete :=
  .phase h.busy fun k _ => (h.skipTicks k).sensor_ten

end

/-! ### The whole command -/

theorem ReadPlan.inTime_iff {p : ReadPlan} {limit : Option Nat} : p.inTime limit = true ↔
    belowLimit limit p.answerPolls = true ∧ belowLimit limit p.responsePolls = true ∧ belowLimit limit p.readyPolls = true ∧
    ∀ b ∈ p.bits, belowLimit limit b.lowPolls = true ∧ belowLimit limit b.highPolls = true := by
  simp [ReadPlan.inTime, and_assoc]

/-- SENSOR_READ from its phase 0, with nothing taken yet. -/
theorem State.AtPhase.exchange_leadsTo {s : State} {p : ReadPlan} (h : s.AtPhase 0x8#4 0#4) (hx : s.rxsh = 0#40) (hc : s.bitcnt = 0#6)
    (hcfg : s.cfg.wf = true) (hlen : p.bits.length = 40) (htime : p.inTime s.cfg.sensorTimeout = true) :
    LeadsTo p.needs.tail s ({ s.release.reading 10#4 (p.bits.map BitPlan.bit) with rvalid := true } : State).complete := by
  obtain ⟨_, hfits⟩ := Params.timeouts_fit hcfg
  obtain ⟨ha, hs, hy, hbits⟩ := ReadPlan.inTime_iff.1 htime
  have free : s.release.AtPhase 0x8#4 0#4 := ⟨h.busy, h.opr, h.phase, h.bitcnt_le⟩
  have first : s.release.setPhase 6#4 = s.release.reading (phaseAfterPoll 9#4 0#6) [] := by
    simp [State.release, State.setPhase, State.reading, phaseAfterPoll, pack, hx, hc]
  have request := h.request_leadsTo p.requestWaits
  have handshake := (free.setPhase 3#4).handshake_leadsTo hfits rfl ha hs hy
  have bits := free.bits_leadTo (taken := []) hfits (by simpa using hlen) hbits
  have done := (free.reading (q := 10#4) (taken := p.bits.map BitPlan.bit) (by simp [hlen])).done_leadsTo
  rw [p.needs_eq]
  exact request.trans ((first ▸ handshake).trans (bits.trans done))

/-- Settles O28: the acceptance tick, then the exchange by `State.AtPhase.exchange_leadsTo`. -/
theorem sensorReadRunsToCompletion : Obligations.SensorReadRunsToCompletion := by
  intro s p hb hdq hcfg hlen htime hmeets
  have accepted : (s.accept .sensorRead).nextTick.AtPhase 0x8#4 0#4 := s.accept_atPhase .sensorRead (show 0#6 ≤ 40#6 by decide)
  have first : p.needs = Need.anything :: p.needs.tail := by rw [p.needs_eq, List.tail_cons]
  have ticks : p.needs.tail.length = p.lastTick := by rw [List.length_tail, p.length_needs, Nat.add_sub_cancel]
  rw [first, meets_cons] at hmeets
  obtain ⟨_, _, hmeets⟩ := hmeets
  have coming : meets (p.needs.tail ++ []) (s.accept .sensorRead).nextTick = true := by
    rw [List.append_nil, ← hmeets]
    exact meets_congr fun k => by simp
  obtain ⟨whole, _⟩ := accepted.exchange_leadsTo rfl rfl hcfg hlen htime 0 [] coming
  rw [ticks, Nat.zero_add] at whole
  refine ⟨s.accept .sensorRead, exec_of_idle .sensorRead hb, whole.trans ?_⟩
  simp [State.skipTicks_succ, State.reading, State.release, State.complete, State.accept, State.acceptLegal, State.nextTick, hlen, hdq]

end Sys2Proof.Machine
end

section
/-! The display unit as words and as bytes (42_host_sequences.md R202 to R208): its expansion, and what its payload bytes hold bit by bit. -/

namespace Sys2Proof.Machine

/-- Settles O49: the expansion of R202 by evaluation. -/
theorem lcdUnitExpansion : Obligations.LcdUnitExpansion := fun _ _ _ => ⟨rfl, rfl⟩

theorem getLsbD_of_lt_sixteen {v : Byte} (hv : v < 0x10#8) {i : Nat} (hi : 4 ≤ i) : v.getLsbD i = false :=
  Nat.testBit_lt_two_pow ((show v.toNat < 2 ^ 4 from hv).trans_le (Nat.pow_le_pow_right (by decide) hi))

/-- A byte put together from a nibble above and a control code below (R205). -/
theorem getLsbD_nibble_or {code : Byte} (hcode : code < 0x10#8) (w : Byte) {i : Nat} (hi : i < 8) :
    ((w &&& 0xF0#8) ||| code).getLsbD i = if i < 4 then code.getLsbD i else w.getLsbD i := by
  have mask : (0xF0#8 : Byte).getLsbD i = decide (4 ≤ i) := by
    interval_cases i <;> rfl
  rw [BitVec.getLsbD_or, BitVec.getLsbD_and, mask]
  split
  · next low => simp [Nat.not_le.2 low]
  · next high => simp [getLsbD_of_lt_sixteen hcode (Nat.not_lt.1 high), Nat.not_lt.1 high]

theorem LcdKind.enableHigh_lt (k : LcdKind) : k.enableHigh < 0x10#8 := by cases k <;> decide

theorem LcdKind.enableLow_lt (k : LcdKind) : k.enableLow < 0x10#8 := by cases k <;> decide

/-- The two bytes of a nibble differ in the enable bit only (R204). -/
theorem nibble_enable_toggles (k : LcdKind) (w : Byte) :
    ((w &&& 0xF0#8) ||| k.enableHigh) ^^^ ((w &&& 0xF0#8) ||| k.enableLow) = 0x04#8 := by
  have codes : k.enableHigh ^^^ k.enableLow = 0x04#8 := by cases k <;> rfl
  apply BitVec.eq_of_getLsbD_eq
  intro i hi
  rw [BitVec.getLsbD_xor, getLsbD_nibble_or k.enableHigh_lt w hi, getLsbD_nibble_or k.enableLow_lt w hi]
  split
  · rw [← BitVec.getLsbD_xor, codes]
  · next high => rw [Bool.xor_self, getLsbD_of_lt_sixteen (by decide) (Nat.not_lt.1 high)]

/-- In the first byte of a nibble enable is asserted (R204). -/
theorem nibble_enable_asserted (k : LcdKind) (w : Byte) : ((w &&& 0xF0#8) ||| k.enableHigh).getLsbD 2 = true := by
  rw [getLsbD_nibble_or k.enableHigh_lt w (by decide)]
  cases k <;> rfl

/-- The backlight bit, the bit left 0 and register-select are those of the code (R203, R204). -/
theorem nibble_control_bits {k : LcdKind} {code : Byte} (hcode : code = k.enableHigh ∨ code = k.enableLow) (w : Byte) :
    ((w &&& 0xF0#8) ||| code).getLsbD 3 = true ∧ ((w &&& 0xF0#8) ||| code).getLsbD 1 = false ∧
      ((w &&& 0xF0#8) ||| code).getLsbD 0 = decide (k = .data) := by
  have hlt : code < 0x10#8 := hcode.elim (· ▸ k.enableHigh_lt) (· ▸ k.enableLow_lt)
  rw [getLsbD_nibble_or hlt w (by decide), getLsbD_nibble_or hlt w (by decide), getLsbD_nibble_or hlt w (by decide)]
  rcases hcode with rfl | rfl <;> cases k <;> exact ⟨rfl, rfl, rfl⟩

/-- The upper nibbles of two payload bytes are the byte (R205, R208). -/
theorem nibbles_are_the_byte {code : Byte} (hcode : code < 0x10#8) (v : Byte) :
    (((v &&& 0xF0#8) ||| code) &&& 0xF0#8) ||| ((((v <<< 4) &&& 0xF0#8) ||| code) >>> 4) = v := by
  have below : (((v <<< 4) &&& 0xF0#8) ||| code) >>> 4 < 0x10#8 := by bv_omega
  apply BitVec.eq_of_getLsbD_eq
  intro i hi
  rw [getLsbD_nibble_or below _ hi]
  split
  · next low =>
    rw [BitVec.getLsbD_ushiftRight, getLsbD_nibble_or hcode _ (by omega)]
    simp [BitVec.getLsbD_shiftLeft]
    omega
  · next high => rw [getLsbD_nibble_or hcode _ hi, if_neg high]

/-- Settles O50: each payload byte holds its nibble above the control code. -/
theorem lcdUnitCarriesTheByte : Obligations.LcdUnitCarriesTheByte := by
  intro k v b1 b2 b3 b4 h
  cases h
  refine ⟨nibble_enable_toggles k v, nibble_enable_toggles k (v <<< 4), nibble_enable_asserted k v, nibble_enable_asserted k (v <<< 4), ?_,
    nibbles_are_the_byte k.enableHigh_lt v⟩
  simp only [List.forall_mem_cons]
  exact ⟨nibble_control_bits (.inl rfl) v, nibble_control_bits (.inr rfl) v, nibble_control_bits (.inl rfl) (v <<< 4),
    nibble_control_bits (.inr rfl) (v <<< 4), by simp⟩

end Sys2Proof.Machine
end

section
/-! SUPPORT. Host and block together (30_encoding.md R101, 42_host_sequences.md R213; log entry 9), tick by tick: what the host does at the outputs it
sees, and runs put together from those of the block. -/

namespace Sys2Proof.Machine

/-! ### The host's side of a tick -/

/-- A host that has presented a command and has these ticks of its program left. -/
def HostState.waiting (ops : List HostOp) (failure : Option (BitVec 3)) : HostState := { todo := ops, inFlight := true, failure := failure }

section act
variable {h : HostState} {s : State} {i : Instr} {rest : List HostOp}

theorem HostState.act_of_busy (hb : s.busy = true) : h.act s.outputs = (none, h) := by
  simp [HostState.act, State.outputs, hb]

/-- The host presents its next command to an idle block, unless it sees that the one before failed (R101). -/
theorem HostState.act_command (hb : s.busy = false) (hsees : h.inFlight = true → s.err = .none) (htodo : h.todo = .cmd i :: rest) :
    h.act s.outputs = (some (encode i), .waiting rest h.failure) := by
  cases hf : h.inFlight
  · simp [HostState.act, HostState.waiting, State.outputs, hb, hf, htodo]
  · simp [HostState.act, HostState.waiting, State.outputs, hb, hf, htodo, hsees hf, Err.code]

/-- A host at the start of its program looks for no outcome. -/
theorem HostState.act_load (hb : s.busy = false) : (HostState.load (.cmd i :: rest)).act s.outputs = (some (encode i), .waiting rest none) :=
  act_command hb (by simp [load]) rfl

/-- One tick of a delay goes by (R212). -/
theorem HostState.act_pause (hb : s.busy = false) (hsees : s.err = .none) (htodo : h.todo = .pause :: rest) :
    h.act s.outputs = (none, { h with todo := rest, inFlight := false }) := by
  simp [HostState.act, State.outputs, hb, hsees, htodo, Err.code]

/-- After a failed command the host issues STOP, whatever was left to do (R213). -/
theorem HostState.act_failed (hb : s.busy = false) (hf : h.inFlight = true) (herr : s.err.code ≠ 0#3) :
    h.act s.outputs = (some (encode .stop), .waiting [] (some s.err.code)) := by
  simp [HostState.act, HostState.waiting, State.outputs, hb, hf, herr]

end act

/-! ### A tick of both -/

section coTick
variable {h g : HostState} {s t : State}

theorem coTick_of_step {w : Option CmdWord} (hact : h.act s.outputs = (w, g)) (hstep : step (s.offered w) = .next t) : coTick h s = some (g, t) := by
  rw [coTick, hact, hstep]

/-- While the block is busy the host waits. -/
theorem coTick_of_busy (hb : s.busy = true) (hstep : step s = .next t) : coTick h s = some (h, t) :=
  coTick_of_step (HostState.act_of_busy hb)
    (.trans (step_withInput_of_busy (i := { s.input with cmdValid := false }) hb rfl rfl rfl rfl) hstep)

/-- An idle block accepts the command the host presents. -/
theorem coTick_of_command {i : Instr} (hr : s.input.rst = false) (hb : s.busy = false) (hact : h.act s.outputs = (some (encode i), g)) :
    coTick h s = some (g, (s.accept i).nextTick) := by
  obtain ⟨decode_encode, _⟩ := decodeEncodeAgree
  have wf : i.wf = true := by cases i <;> rfl
  refine coTick_of_step hact ?_
  rw [step_of_command (s := s.offered (some (encode i))) hr rfl (decode_encode i wf), exec_of_idle i (by exact hb), endTick_next]
  cases i <;> rfl

/-- Nothing happens on a tick on which the host presents nothing to an idle block. -/
theorem coTick_of_idle (hr : s.input.rst = false) (hb : s.busy = false) (hact : h.act s.outputs = (none, g)) : coTick h s = some (g, s.nextTick) :=
  coTick_of_step hact (idleTickChangesNothing (s.offered none) hb hr rfl)

end coTick

/-! ### Runs of both, seen on the lines -/

/-- `RunShows` for host and block together. -/
inductive HostShows : HostState → State → List (Bool × Bool) → HostState → State → Prop
  | nil (h : HostState) (s : State) : HostShows h s [] h s
  | cons {h g k : HostState} {s t u : State} {trace : List (Bool × Bool)} :
      coTick h s = some (g, t) → HostShows g t trace k u → HostShows h s (t.latches :: trace) k u

section HostShows
variable {h g k : HostState} {s t u : State} {trace more : List (Bool × Bool)}

theorem HostShows.coRun_eq {n : Nat} (H : HostShows h s trace g t) (hn : trace.length = n) : coRun n h s = some (g, t) := by
  subst hn
  induction H with
  | nil h s => rfl
  | cons htick _ ih => simpa [coRun, htick] using ih

theorem HostShows.latches_eq {n : Nat} (H : HostShows h s trace g t) (hn : trace.length = n) : (coStates n h s).map State.latches = trace := by
  subst hn
  induction H with
  | nil h s => rfl
  | cons htick _ ih => simpa [coStates, htick] using ih

theorem HostShows.append (H : HostShows h s trace g t) (H' : HostShows g t more k u) : HostShows h s (trace ++ more) k u := by
  induction H with
  | nil h s => exact H'
  | cons htick _ ih => exact .cons htick (ih H')

theorem dataAtRises_cons (c : Bool) (x : Bool × Bool) (rest : List (Bool × Bool)) :
    dataAtRises c (x :: rest) = dataAtRises c [x] ++ dataAtRises x.1 rest := by
  simp only [dataAtRises]
  split <;> rfl

/-- The rises of a run and of the one after it: the clock level between them is the latch's. -/
theorem HostShows.dataAtRises_append (H : HostShows h s trace g t) (more : List (Bool × Bool)) (c : Bool) (hc : s.sclOut = c) :
    dataAtRises c (trace ++ more) = dataAtRises c trace ++ dataAtRises t.sclOut more := by
  induction H generalizing c with
  | nil h s => rw [hc]; rfl
  | @cons _ _ _ _ v _ trace _ _ ih =>
    rw [List.cons_append, dataAtRises_cons, dataAtRises_cons (rest := trace), State.latches, ih v.sclOut rfl, List.append_assoc]

/-- A run that begins with a phase of the command in progress. -/
theorem HostShows.phase {n : Nat} {x : Bool × Bool} (hb : s.busy = true) (hr : NoReset (n + 1) s) (hphase : runPhase s = .next t)
    (hx : t.latches = x) (rest : NoReset n t.nextTick → HostShows h t.nextTick trace g u) : HostShows h s (x :: trace) g u := by
  subst hx
  have tick : step s = .next t.nextTick := by rw [step_of_busy (hr 0 (by omega)) hb, hphase, endTick_next]
  exact .cons (t := t.nextTick) (coTick_of_busy hb tick) (rest (noReset_nextTick hr (runPhase_inputAt hphase)))

end HostShows

/-! ### The host waits for a bus command -/

/-- A bus command in progress stays in progress at least this many ticks: all of it where nothing is polled, one poll where WAIT_ACK polls. -/
def State.ticksLeft (s : State) : Nat :=
  if s.busy then
    if s.opr = 0x3#4 then 3 * s.bitcnt.toNat - s.phase.toNat
    else if s.opr = 0x4#4 then 3 - s.phase.toNat
    else 4 - s.phase.toNat
  else 0

theorem busy_of_ticksLeft {s : State} (h : 0 < s.ticksLeft) : s.busy = true := by
  by_contra hb
  rw [State.ticksLeft, if_neg hb] at h
  exact absurd h (lt_irrefl 0)

/-- A phase of a bus command uses up one tick of these. -/
theorem ticksLeft_le_runPhase {s t : State} (hb : s.busy = true) (ho : s.opr ≠ 0x8#4) (ht : runPhase s = .next t) :
    s.ticksLeft ≤ t.ticksLeft + 1 := by
  obtain ⟨_, ⟨e, hu⟩ | ⟨e, hu⟩ | ⟨e, hu⟩ | ⟨e, hu⟩ | ⟨e, _⟩⟩ := runPhase_cases ht
  · rcases startPhase_cases hu with ⟨hp, rfl⟩ | ⟨hp, rfl⟩ | ⟨hp, rfl⟩ | ⟨hp, rfl⟩ <;> simp [State.ticksLeft, hb, e, hp]
  · rcases stopPhase_cases hu with ⟨hp, rfl⟩ | ⟨hp, rfl⟩ | ⟨hp, rfl⟩ | ⟨hp, rfl⟩ <;> simp [State.ticksLeft, hb, e, hp]
  · rcases writeBytePhase_cases hu with ⟨hp, rfl⟩ | ⟨hp, rfl⟩ | ⟨hp, rfl⟩
    · simp [State.ticksLeft, hb, e, hp]
      omega
    · simp [State.ticksLeft, hb, e, hp]
      omega
    · rcases nextTxBit_cases (s.drive .scl true) with ⟨hlast, eq⟩ | ⟨hmore, eq⟩
      · have last : s.bitcnt = 1#6 := hlast
        simp [eq, State.ticksLeft, hb, e, hp, last]
      · have more : s.bitcnt ≠ 1#6 := hmore
        simp [eq, State.ticksLeft, hb, e, hp, shiftTx]
        bv_omega
  · rcases waitAckPhase_cases hu with ⟨hp, rfl⟩ | ⟨hp, rfl⟩ | ⟨hp, rfl⟩ <;> simp [State.ticksLeft, hb, e, hp]
  · exact absurd e ho

/-- As long as a bus command is in progress the run of both is the block's. -/
theorem RunShows.hosted {h : HostState} {s u : State} {trace : List (Bool × Bool)} (H : RunShows s trace u) (ho : s.opr ≠ 0x8#4)
    (hr : NoReset trace.length s) (hticks : trace.length ≤ s.ticksLeft) : HostShows h s trace h u := by
  induction H with
  | nil s => exact .nil h s
  | @cons s t u trace hstep _ ih =>
    have hb := busy_of_ticksLeft (s := s) (by simp at hticks; omega)
    obtain ⟨v, hv, rfl⟩ := endTick_eq_next ((step_of_busy (hr 0 (by simp)) hb).symm.trans hstep)
    have fewer := ticksLeft_le_runPhase hb ho hv
    have same : v.nextTick.ticksLeft = v.ticksLeft := rfl
    simp only [List.length_cons] at hr hticks
    exact .phase hb hr hv rfl fun hr => ih (by rwa [State.nextTick_opr, runPhase_opr hv]) hr (by omega)

/-- The host presents a bus command, and then waits for it. -/
theorem HostShows.command {h g : HostState} {s u : State} {i : Instr} {trace : List (Bool × Bool)} (hb : s.busy = false)
    (hact : h.act s.outputs = (some (encode i), g)) (hi : i.op ≠ 0x8#4) (hr : NoReset (trace.length + 1) s)
    (hticks : trace.length ≤ (s.accept i).ticksLeft) (H : RunShows (s.accept i).nextTick trace u) : HostShows h s (s.latches :: trace) g u := by
  obtain ⟨_, opr_eq, _⟩ := s.accept_sequencer i
  obtain ⟨scl, sda, _⟩ := s.accept_latches i
  have latches_eq : (s.accept i).nextTick.latches = s.latches := by simp [State.latches, scl, sda]
  rw [← latches_eq]
  exact .cons (coTick_of_command (hr 0 (by omega)) hb hact)
    (H.hosted (by rwa [State.nextTick_opr, opr_eq]) (noReset_nextTick hr (s.accept_inputAt · i)) hticks)

end Sys2Proof.Machine
end

section
/-! Host programs on the block (42_host_sequences.md R200 to R213): each command as the host runs it, and programs put together from them. -/

namespace Sys2Proof.Machine

/-- The block between two commands: idle, without an error, and with `BITCNT` in range. -/
structure State.AtRest (s : State) : Prop where
  busy      : s.busy = false
  err       : s.err = .none
  bitcnt_le : s.bitcnt ≤ 40#6

/-- What no bus command writes, over `n` ticks: the parameters, `DQ_OE`, the reading, and the inputs still to come. -/
structure State.KeptOver (s t : State) (n : Nat) : Prop where
  cfg     : t.cfg = s.cfg
  dqOe    : t.dqOe = s.dqOe
  rxsh    : t.rxsh = s.rxsh
  rvalid  : t.rvalid = s.rvalid
  inputAt : ∀ k, t.inputAt k = s.inputAt (n + k)

theorem State.KeptOver.refl (s : State) : s.KeptOver s 0 := ⟨rfl, rfl, rfl, rfl, fun k => by rw [Nat.zero_add]⟩

theorem State.KeptOver.trans {s t u : State} {m n : Nat} (h : s.KeptOver t m) (h' : t.KeptOver u n) : s.KeptOver u (m + n) :=
  ⟨h'.cfg.trans h.cfg, h'.dqOe.trans h.dqOe, h'.rxsh.trans h.rxsh, h'.rvalid.trans h.rvalid,
    fun k => by rw [h'.inputAt, h.inputAt, Nat.add_assoc]⟩

theorem State.KeptOver.noReset {s t : State} {m n : Nat} (h : s.KeptOver t m) (hr : NoReset (m + n) s) : NoReset n t := by
  intro k hk
  rw [h.inputAt]
  exact hr (m + k) (by omega)

theorem State.accepted_inputAt (s : State) (i : Instr) (n k : Nat) : ((s.accept i).nextTick.skipTicks n).inputAt k = s.inputAt (n + 1 + k) := by
  rw [State.skipTicks_inputAt, State.nextTick_inputAt, State.accept_inputAt, Nat.add_right_comm]

theorem belowLimit_zero {w : Nat} {limit : Option Nat} (h : timeoutFits w limit = true) : belowLimit limit 0 = true := by
  cases limit with
  | none => rfl
  | some n =>
    simp only [timeoutFits, belowLimit, Bool.and_eq_true, decide_eq_true_eq] at h ⊢
    omega

/-! ### The four bus commands as the host runs them -/

section commands
variable {h g : HostState} {s : State}

/-- START at the head of a program, whatever `ERR` shows (R121, R122). -/
theorem start_hosted {rest : List HostOp} (hb : s.busy = false) (hbits : s.bitcnt ≤ 40#6) (hr : NoReset 5 s) :
    ∃ t : State, HostShows (.load (.cmd .start :: rest)) s [s.latches, (s.sclOut, true), (true, true), (true, false), (false, false)]
        (.waiting rest none) t ∧ t.AtRest ∧ s.KeptOver t 5 := by
  have whole := (State.accept_atPhase .start hbits).start_shows (noReset_nextTick hr (s.accept_inputAt · .start))
  have shown := HostShows.command (trace := [(s.sclOut, true), (true, true), (true, false), (false, false)]) hb (HostState.act_load (rest := rest) hb)
    (by decide) hr le_rfl whole
  exact ⟨_, shown, ⟨rfl, rfl, hbits⟩, ⟨rfl, rfl, rfl, rfl, s.accepted_inputAt .start 4⟩⟩

/-- WRITE_BYTE (R127 to R133). -/
theorem writeByte_hosted {v : Byte} (hb : s.busy = false) (hr : NoReset 25 s) (hact : h.act s.outputs = (some (encode (.writeByte v)), g)) :
    ∃ t : State, HostShows h s (s.latches :: writeByteTrace s.sdaOut (ser8 v)) g t ∧ t.AtRest ∧ s.KeptOver t 25 ∧ t.sclOut = true := by
  have whole := (s.accept_atPhase (.writeByte v) (show 8#6 ≤ 40#6 by decide)).byteSent_shows (n := 7) (by decide) rfl
    (noReset_nextTick hr (s.accept_inputAt · (.writeByte v)))
  exact ⟨_, .command hb hact (show (0x3#4 : OpField) ≠ 0x8#4 by decide) hr le_rfl whole, ⟨rfl, rfl, show 0#6 ≤ 40#6 by decide⟩,
    ⟨rfl, rfl, rfl, rfl, s.accepted_inputAt (.writeByte v) 24⟩, rfl⟩

/-- WAIT_ACK acknowledged on its first poll (R140 to R142). -/
theorem waitAck_hosted (hb : s.busy = false) (hbits : s.bitcnt ≤ 40#6) (hcfg : s.cfg.wf = true) (hr : NoReset 4 s)
    (hlow : (s.inputAt 3).sdaI = false) (hact : h.act s.outputs = (some (encode .waitAck), g)) :
    ∃ t : State, HostShows h s [s.latches, (s.sclOut, true), (true, true), (true, true)] g t ∧ t.AtRest ∧ s.KeptOver t 4 := by
  obtain ⟨fits, _⟩ := Params.timeouts_fit hcfg
  have whole := (State.accept_atPhase .waitAck hbits).ack_shows (p := 0) hcfg (belowLimit_zero fits)
    (noReset_nextTick hr (s.accept_inputAt · .waitAck)) (by simp) (by simpa using hlow)
  exact ⟨_, .command hb hact (by decide) hr le_rfl whole, ⟨rfl, rfl, hbits⟩, ⟨rfl, rfl, rfl, rfl, s.accepted_inputAt .waitAck 3⟩⟩

/-- STOP (R124, R125). -/
theorem stop_hosted (hb : s.busy = false) (hbits : s.bitcnt ≤ 40#6) (hr : NoReset 5 s) (hact : h.act s.outputs = (some (encode .stop), g)) :
    ∃ t : State, HostShows h s [s.latches, (false, s.sdaOut), (false, false), (true, false), (true, true)] g t ∧ t.AtRest ∧ s.KeptOver t 5 ∧
      t.latches = (true, true) := by
  have whole := (State.accept_atPhase .stop hbits).stop_shows (noReset_nextTick hr (s.accept_inputAt · .stop))
  exact ⟨_, .command hb hact (by decide) hr le_rfl whole, ⟨rfl, rfl, hbits⟩, ⟨rfl, rfl, rfl, rfl, s.accepted_inputAt .stop 4⟩, rfl⟩

end commands

/-! ### Stretches of a program that the peer acknowledges -/

/-- No reset on the next `n` ticks, and the peer holds the data line low on all of them. -/
structure Acked (n : Nat) (s : State) : Prop where
  noReset : NoReset n s
  low     : ∀ k < n, (s.inputAt k).sdaI = false

theorem Acked.mono {m n : Nat} {s : State} (h : Acked n s) (hle : m ≤ n) : Acked m s :=
  ⟨fun k hk => h.noReset k (by omega), fun k hk => h.low k (by omega)⟩

theorem State.KeptOver.acked {s t : State} {m n : Nat} (h : s.KeptOver t m) (hack : Acked (m + n) s) : Acked n t := by
  refine ⟨h.noReset hack.noReset, fun k hk => ?_⟩
  rw [h.inputAt]
  exact hack.low (m + k) (by omega)

/-- Wherever it stands in a program, the host gets through this stretch in `n` ticks with a peer that acknowledges every poll, and the bits on the data
line at the rises of the clock are these. -/
def Carries (ops : List HostOp) (n : Nat) (bits : List Bool) : Prop :=
  ∀ (rest : List HostOp) (h : HostState) (s : State), h.todo = ops ++ rest → s.AtRest → s.cfg.wf = true → Acked n s →
    ∃ (trace : List (Bool × Bool)) (g : HostState) (t : State), HostShows h s trace g t ∧ trace.length = n ∧
      dataAtRises s.sclOut trace = bits ∧ g.todo = rest ∧ g.failure = h.failure ∧ t.AtRest ∧ s.KeptOver t n

theorem Carries.nil : Carries [] 0 [] := fun _ h s htodo hs _ _ =>
  ⟨[], h, s, .nil h s, rfl, rfl, htodo, rfl, hs, .refl s⟩

theorem Carries.append {ops ops' : List HostOp} {m n : Nat} {bits bits' : List Bool} (H : Carries ops m bits) (H' : Carries ops' n bits') :
    Carries (ops ++ ops') (m + n) (bits ++ bits') := by
  intro rest h s htodo hs hcfg hack
  obtain ⟨trace, g, t, shows, length, data, todo, failure, ht, kept⟩ :=
    H (ops' ++ rest) h s (by rw [htodo, List.append_assoc]) hs hcfg (hack.mono (by omega))
  obtain ⟨trace', g', t', shows', length', data', todo', failure', ht', kept'⟩ :=
    H' rest g t todo ht (by rw [kept.cfg, hcfg]) (kept.acked hack)
  refine ⟨trace ++ trace', g', t', shows.append shows', by rw [List.length_append, length, length'], ?_, todo', failure'.trans failure, ht',
    kept.trans kept'⟩
  rw [shows.dataAtRises_append _ _ rfl, data, data']

/-- An acceptance tick is no rise. -/
theorem dataAtRises_latches (s : State) (more : List (Bool × Bool)) : dataAtRises s.sclOut (s.latches :: more) = dataAtRises s.sclOut more := by
  simp [dataAtRises, State.latches]

/-- A byte and its acknowledge (R200). -/
theorem carries_byte (v : Byte) : Carries [.cmd (.writeByte v), .cmd .waitAck] 29 (ser8 v) := by
  intro rest h s htodo hs hcfg hack
  obtain ⟨t, written, ht, kept, high⟩ :=
    writeByte_hosted hs.busy (hack.mono (by decide)).noReset (HostState.act_command hs.busy (fun _ => hs.err) htodo)
  have hack : Acked 4 t := kept.acked hack
  obtain ⟨u, acked, hu, kept'⟩ := waitAck_hosted ht.busy ht.bitcnt_le (by rw [kept.cfg, hcfg]) hack.noReset (hack.low 3 (by decide))
    (HostState.act_command (h := .waiting (.cmd .waitAck :: rest) h.failure) ht.busy (fun _ => ht.err) rfl)
  refine ⟨_, _, u, written.append acked, rfl, ?_, rfl, rfl, hu, kept.trans kept'⟩
  rw [written.dataAtRises_append _ _ rfl, dataAtRises_latches, dataAtRises_latches, dataAtRises_writeByteTrace]
  simp [dataAtRises, high]

/-- A tick of a delay (R212). -/
theorem carries_pause : Carries [.pause] 1 [] := by
  intro rest h s htodo hs _ hack
  have tick := coTick_of_idle (hack.noReset 0 (by decide)) hs.busy (HostState.act_pause hs.busy hs.err htodo)
  refine ⟨_, _, _, .cons tick (.nil _ _), rfl, ?_, rfl, rfl, ⟨hs.busy, hs.err, hs.bitcnt_le⟩, rfl, rfl, rfl, rfl, fun k => ?_⟩
  · exact dataAtRises_latches s []
  · rw [State.nextTick_inputAt, Nat.add_comm]

theorem carries_pauses (n : Nat) : Carries (List.replicate n .pause) n [] := by
  induction n with
  | zero => exact .nil
  | succ n ih =>
    rw [List.replicate_succ']
    exact ih.append carries_pause

end Sys2Proof.Machine
end

section
/-! The host's programs (42_host_sequences.md R200 to R213): a frame and a display unit with a peer that acknowledges, and a frame without a peer. -/

namespace Sys2Proof.Machine

/-! ### Whole programs -/

/-- START, a stretch the peer acknowledges, and STOP, from an idle bus to an idle bus. -/
theorem program_completes {body : List HostOp} {m n : Nat} {bits : List Bool} (hbody : Carries body m bits) (hn : n = 5 + m + 5) {s : State}
    (hb : s.busy = false) (hbits : s.bitcnt ≤ 40#6) (hidle : s.latches = (true, true)) (hcfg : s.cfg.wf = true) (hack : Acked n s) :
    ∃ h t, coRun n (.load (.cmd .start :: (body ++ [.cmd .stop]))) s = some (h, t) ∧ h.todo = [] ∧ h.failure = none ∧
      t.busy = false ∧ t.err = .none ∧ t.latches = (true, true) ∧ t.dqOe = s.dqOe ∧ t.rxsh = s.rxsh ∧ t.rvalid = s.rvalid ∧
      dataAtRises true ((coStates n (.load (.cmd .start :: (body ++ [.cmd .stop]))) s).map State.latches) = bits ++ [false] := by
  subst hn
  have high : s.sclOut = true := congrArg Prod.fst hidle
  obtain ⟨t, started, ht, kept⟩ := start_hosted (rest := body ++ [.cmd .stop]) hb hbits (hack.mono (by omega)).noReset
  obtain ⟨trace, g, u, carried, length, data, todo, failure, hu, kept'⟩ :=
    hbody [.cmd .stop] (.waiting (body ++ [.cmd .stop]) none) t rfl ht (by rw [kept.cfg, hcfg]) (kept.acked (hack.mono (by omega)))
  have kept := kept.trans kept'
  obtain ⟨v, stopped, hv, kept', idle⟩ := stop_hosted hu.busy hu.bitcnt_le (kept.acked hack).noReset
    (HostState.act_command hu.busy (fun _ => hu.err) todo)
  have kept := kept.trans kept'
  have whole := started.append (carried.append stopped)
  have ticks : ([s.latches, (s.sclOut, true), (true, true), (true, false), (false, false)] ++ (trace ++
      [u.latches, (false, u.sdaOut), (false, false), (true, false), (true, true)])).length = 5 + m + 5 := by
    simp [length]
    omega
  refine ⟨_, v, whole.coRun_eq ticks, rfl, failure, hv.busy, hv.err, idle, kept.dqOe, kept.rxsh, kept.rvalid, ?_⟩
  rw [whole.latches_eq ticks, started.dataAtRises_append _ _ high, carried.dataAtRises_append _ _ rfl, data, dataAtRises_latches, ← high,
    dataAtRises_latches]
  simp [dataAtRises, high]

theorem hostOps_append (tTick : Nat) (acts acts' : List HostAct) : hostOps tTick (acts ++ acts') = hostOps tTick acts ++ hostOps tTick acts' :=
  List.flatMap_append

/-- START and STOP around what a frame or a display unit sends (R200, R202). -/
theorem hostOps_between (tTick : Nat) (acts : List HostAct) :
    hostOps tTick ([.cmd .start] ++ acts ++ [.cmd .stop]) = .cmd .start :: (hostOps tTick acts ++ [.cmd .stop]) := by
  rw [hostOps_append, hostOps_append]
  rfl

theorem carries_sendBytes (tTick : Nat) (bs : List Byte) : Carries (hostOps tTick (bs.flatMap sendByte)) (29 * bs.length) (bs.flatMap ser8) := by
  induction bs with
  | nil => exact .nil
  | cons b bs ih =>
    rw [List.flatMap_cons, hostOps_append, List.flatMap_cons, List.length_cons, Nat.mul_succ, Nat.add_comm]
    exact (carries_byte b).append ih

/-- Settles O51: a frame sends its address and its payload alike. -/
theorem frameReachesThePeer : Obligations.FrameReachesThePeer := by
  intro s a bs tTick hb hbits hidle hcfg hr hlow
  have ops : frame a bs = [.cmd .start] ++ (a :: bs).flatMap sendByte ++ [.cmd .stop] := by simp [frame]
  rw [ops, hostOps_between]
  exact program_completes (carries_sendBytes tTick (a :: bs)) (by rw [List.length_cons]; omega) hb hbits hidle hcfg ⟨hr, hlow⟩

theorem hostOps_delay (tTick ns : Nat) : hostOps tTick [.delay ns] = List.replicate (Config.delayTicks tTick ns) .pause :=
  List.flatMap_singleton _ _

/-- A byte of a display unit and the delay after it (R202). -/
theorem carries_sendByte_delay (tTick ns : Nat) (b : Byte) :
    Carries (hostOps tTick (sendByte b ++ [.delay ns])) (29 + Config.delayTicks tTick ns) (ser8 b) := by
  rw [hostOps_append, hostOps_delay, ← List.append_nil (ser8 b)]
  exact (carries_byte b).append (carries_pauses _)

theorem carries_sendNibble (tTick : Nat) (p : HostParams) (k : LcdKind) (nibble : Byte) :
    Carries (hostOps tTick (sendNibble p k nibble)) ((29 + Config.delayTicks tTick p.tEnShort) + (29 + Config.delayTicks tTick p.tEnLong))
      (ser8 (nibble ||| k.enableHigh) ++ ser8 (nibble ||| k.enableLow)) := by
  rw [sendNibble, List.append_assoc, hostOps_append]
  exact (carries_sendByte_delay tTick _ _).append (carries_sendByte_delay tTick _ _)

/-- What a display unit sends between START and STOP (R202). -/
theorem carries_lcdUnit (tTick : Nat) (p : HostParams) (k : LcdKind) (v : Byte) :
    Carries (hostOps tTick (sendByte p.devAddrW ++ (sendNibble p k (upperNibble v) ++ sendNibble p k (lowerNibble v))))
      (145 + 2 * (Config.delayTicks tTick p.tEnShort + Config.delayTicks tTick p.tEnLong)) ((p.devAddrW :: unitPayload k v).flatMap ser8) := by
  have ticks (short long : Nat) : 145 + 2 * (short + long) = 29 + ((29 + short + (29 + long)) + (29 + short + (29 + long))) := by omega
  rw [hostOps_append, hostOps_append, ticks]
  exact (carries_byte p.devAddrW).append
    ((carries_sendNibble tTick p k (upperNibble v)).append (carries_sendNibble tTick p k (lowerNibble v)))

/-- Settles O52: a display unit sends its address and two nibbles, each byte of a nibble with its delay. -/
theorem lcdUnitReachesThePeer : Obligations.LcdUnitReachesThePeer := by
  intro s p k v tTick n _ hb hbits hidle hcfg hn hr hlow
  have ops : lcdUnit p k v =
      [.cmd .start] ++ (sendByte p.devAddrW ++ (sendNibble p k (upperNibble v) ++ sendNibble p k (lowerNibble v))) ++ [.cmd .stop] := by
    simp [lcdUnit]
  rw [ops, hostOps_between]
  obtain ⟨h, t, hrun, todo, failure, busy, err, idle, _, _, _, data⟩ :=
    program_completes (carries_lcdUnit tTick p k v) (by omega) hb hbits hidle hcfg ⟨hr, hlow⟩
  exact ⟨h, t, hrun, todo, failure, busy, err, idle, data⟩

/-! ### The peer that never acknowledges -/

/-- The `p + 1` polls that are left before the limit, all of which see the line high (60_exceptions.md R241, R246). -/
theorem State.AtPhase.ack_polls_time_out {n p : Nat} {h : HostState} {s : State} (hs : s.AtPhase 0x4#4 2#4) (hlimit : s.cfg.ackTimeout = some n)
    (hfits : n < 2 ^ s.cfg.tocntW) (hcount : s.tocnt + (p + 1) = n) (hr : NoReset (p + 1) s) (hhigh : ∀ k < p + 1, (s.inputAt k).sdaI = true) :
    HostShows h s (List.replicate (p + 1) s.latches) h ((s.fail .busAckTimeout).skipTicks (p + 1)) := by
  induction p generalizing s with
  | zero =>
    have last : runPhase s = .next (s.fail .busAckTimeout) := by
      rw [hs.ack_missed (hhigh 0 (by omega)), hlimit, State.pollMiss_last hcount.ge]
    exact .phase hs.busy hr last rfl fun _ => by rw [State.nextTick_eq_skipTicks]; exact .nil h _
  | succ p ih =>
    have first : runPhase s = .next { s with tocnt := s.tocnt + 1 } := by
      rw [hs.ack_missed (hhigh 0 (by omega)), hlimit, State.pollMiss_counts (by omega) hfits]
    have polling : ({ s with tocnt := s.tocnt + 1 } : State).nextTick.AtPhase 0x4#4 2#4 := ⟨hs.busy, hs.opr, hs.phase, hs.bitcnt_le⟩
    rw [State.skipTicks_succ _ (p + 1)]
    refine .phase hs.busy hr first rfl fun hr => ih polling hlimit hfits (by simp; omega) hr fun k hk => ?_
    rw [State.nextTick_inputAt]
    exact hhigh (k + 1) (by omega)

/-- WAIT_ACK that fails on its last poll (R241; R260 Scenario D). -/
theorem waitAck_times_out_hosted {n : Nat} {h g : HostState} {s : State} (hb : s.busy = false) (hbits : s.bitcnt ≤ 40#6)
    (hlimit : s.cfg.ackTimeout = some n) (hpos : 1 ≤ n) (hfits : n < 2 ^ s.cfg.tocntW) (hr : NoReset (n + 3) s)
    (hhigh : ∀ k < n + 3, (s.inputAt k).sdaI = true) (hact : h.act s.outputs = (some (encode .waitAck), g)) :
    ∃ (trace : List (Bool × Bool)) (t : State), HostShows h s trace g t ∧ trace.length = n + 3 ∧ t.busy = false ∧ t.err = .busAckTimeout ∧
      t.bitcnt ≤ 40#6 ∧ s.KeptOver t (n + 3) := by
  obtain ⟨p, rfl⟩ : ∃ p, n = p + 1 := ⟨n - 1, by omega⟩
  have phase_zero := State.accept_atPhase (s := s) .waitAck hbits
  have phase_one := (phase_zero.drive .sda true).setPhase 1#4
  have phase_two := (phase_one.nextTick.drive .scl true).setPhase 2#4
  refine ⟨_, _, .cons (coTick_of_command (hr 0 (by omega)) hb hact) <|
    .phase (n := p + 2) phase_zero.busy (noReset_nextTick hr (s.accept_inputAt · .waitAck)) phase_zero.ack_zero rfl fun hr =>
    .phase phase_one.busy hr phase_one.nextTick.ack_one rfl fun hr =>
    phase_two.nextTick.ack_polls_time_out hlimit hfits (Nat.zero_add _) hr fun k hk => ?_,
    by simp, rfl, rfl, hbits, ⟨rfl, rfl, rfl, rfl, fun k => ?_⟩⟩
  · simpa using hhigh (k + 3) (by omega)
  · have tick : p + 1 + k + 3 = p + 1 + 3 + k := by omega
    simp [Nat.add_assoc, ← tick]

/-- Settles O53: START and the address byte, a WAIT_ACK that times out, and the host's STOP. -/
theorem frameToAbsentPeerIsAbandoned : Obligations.FrameToAbsentPeerIsAbandoned := by
  intro s a bs tTick n hb hbits hlimit hpos hfits hr hhigh
  obtain ⟨rest, ops⟩ : ∃ rest, hostOps tTick (frame a bs) = .cmd .start :: .cmd (.writeByte a) :: .cmd .waitAck :: rest := ⟨_, rfl⟩
  rw [ops]
  obtain ⟨t, started, ht, kept⟩ := start_hosted (rest := .cmd (.writeByte a) :: .cmd .waitAck :: rest) hb hbits fun k hk => hr k (by omega)
  obtain ⟨u, written, hu, kept', _⟩ := writeByte_hosted ht.busy (kept.noReset fun k hk => hr k (by omega))
    (HostState.act_command (h := .waiting _ none) ht.busy (fun _ => ht.err) rfl)
  have kept := kept.trans kept'
  have high : ∀ k < n + 3, (u.inputAt k).sdaI = true := fun k hk => by
    rw [kept.inputAt]
    exact hhigh _ (by omega)
  obtain ⟨trace, v, missed, length, hvb, hve, hvbits, kept'⟩ := waitAck_times_out_hosted hu.busy hu.bitcnt_le (by rw [kept.cfg, hlimit]) hpos
    (by rwa [kept.cfg]) (kept.noReset fun k hk => hr k (by omega)) high (HostState.act_command (h := .waiting _ none) hu.busy (fun _ => hu.err) rfl)
  have kept := kept.trans kept'
  obtain ⟨w, stopped, hw, _, idle⟩ := stop_hosted hvb hvbits (kept.noReset fun k hk => hr k (by omega))
    (HostState.act_failed (h := .waiting _ none) hvb rfl (by rw [hve]; decide))
  have whole := started.append (written.append (missed.append stopped))
  refine ⟨_, w, whole.coRun_eq ?_, rfl, congrArg (fun e : Err => some e.code) hve, hw.busy, hw.err, idle⟩
  simp [length, writeByteTrace, ser8]
  omega

end Sys2Proof.Machine
end

section
/-! Failures and hangs of the bounded and unbounded waits (60_exceptions.md R241 to R248, R260): any number of missed polls as one run, said once for
WAIT_ACK and for the five polling phases of SENSOR_READ. -/

namespace Sys2Proof.Machine

/-! ### Missed polls one after another (20_memory.md R67) -/

/-- Each of the next `n` ticks is an unsuccessful poll of one wait, however many polls are counted by then. -/
def State.MissesPolls (s : State) (limit : Option Nat) (code : Err) (n : Nat) : Prop :=
  ∀ k < n, ∀ c, step (({ s with tocnt := c } : State).skipTicks k) =
    .next ((({ s with tocnt := c } : State).pollMiss limit code).skipTicks (k + 1))

section MissesPolls
variable {s : State} {limit : Option Nat} {code : Err} {m n : Nat}

theorem State.MissesPolls.mono (h : s.MissesPolls limit code n) (hle : m ≤ n) : s.MissesPolls limit code m :=
  fun k hk => h k (by omega)

/-- Without a reset it is enough to know the phase in progress. -/
theorem State.missesPolls_of_runPhase (hb : s.busy = true) (hr : NoReset n s)
    (h : ∀ k < n, ∀ c, runPhase (({ s with tocnt := c } : State).skipTicks k) =
      .next ((({ s with tocnt := c } : State).skipTicks k).pollMiss limit code)) : s.MissesPolls limit code n := by
  intro k hk c
  have unreset : (({ s with tocnt := c } : State).skipTicks k).input.rst = false := by
    rw [State.input, State.skipTicks_inputAt]
    exact hr k hk
  rw [step_of_busy unreset hb, h k hk c, endTick_next, State.nextTick_eq_skipTicks, State.pollMiss_skipTicks, State.skipTicks_skipTicks]

/-- Without a limit nothing changes (60_exceptions.md R248). -/
theorem State.MissesPolls.run_spins (h : s.MissesPolls none code n) : run n s = .next (s.skipTicks n) :=
  run_eq_skipTicks fun k hk => by
    rw [State.nextTick_eq_skipTicks, State.skipTicks_skipTicks]
    exact h k hk s.tocnt

/-- Polls short of the limit are counted. -/
theorem State.MissesPolls.run_counts (h : s.MissesPolls (some m) code n) (hzero : s.tocnt = 0) (hlt : n < m) (hfits : m < 2 ^ s.cfg.tocntW) :
    run n s = .next (({ s with tocnt := n } : State).skipTicks n) := by
  induction n with
  | zero =>
    have uncounted : { s with tocnt := 0 } = s := by rw [← hzero]
    rw [uncounted, run_zero, State.skipTicks_zero]
  | succ n ih =>
    have counted : ({ s with tocnt := n } : State).pollMiss (some m) code = { s with tocnt := n + 1 } := State.pollMiss_counts hlt hfits
    rw [run_add n 1 (ih (h.mono (by omega)) (by omega)), run_succ_of_next 0 (h n (by omega) n), counted, run_zero]

/-- The poll that reaches the limit fails (60_exceptions.md R246). -/
theorem State.MissesPolls.run_fails (h : s.MissesPolls (some n) code n) (hzero : s.tocnt = 0) (hpos : 1 ≤ n) (hfits : n < 2 ^ s.cfg.tocntW) :
    run n s = .next ((s.fail code).skipTicks n) := by
  obtain ⟨k, rfl⟩ : ∃ k, n = k + 1 := ⟨n - 1, by omega⟩
  have last : ({ s with tocnt := k } : State).pollMiss (some (k + 1)) code = s.fail code := State.pollMiss_last le_rfl
  rw [run_add k 1 ((h.mono (by omega)).run_counts hzero (by omega) hfits), run_succ_of_next 0 (h k (by omega) k), last, run_zero]

end MissesPolls

section
variable {s : State} {n : Nat}

/-- WAIT_ACK with the data line high (40_bus_master.md R142). -/
theorem State.AtPhase.ack_missesPolls (h : s.AtPhase 0x4#4 2#4) (hr : NoReset n s) (hhigh : ∀ k < n, (s.inputAt k).sdaI = true) :
    s.MissesPolls s.cfg.ackTimeout .busAckTimeout n := by
  refine State.missesPolls_of_runPhase h.busy hr fun k hk c => ?_
  have polling : (({ s with tocnt := c } : State).skipTicks k).AtPhase 0x4#4 2#4 := ⟨h.busy, h.opr, h.phase, h.bitcnt_le⟩
  refine polling.ack_missed ?_
  rw [State.input, State.skipTicks_inputAt]
  exact hhigh k hk

/-- A polling phase of SENSOR_READ with the sensor line at the level it waits on (41_sensor_engine.md R166 to R169, R172). -/
theorem State.AtPhase.sensor_missesPolls {p : BitVec 4} (h : s.AtPhase 0x8#4 p) (hp : sensorPolls p = true) (hr : NoReset n s)
    (hdq : ∀ k < n, (s.inputAt k).dqI = waitedLevel p) : s.MissesPolls s.cfg.sensorTimeout (timeoutCode p) n := by
  refine State.missesPolls_of_runPhase h.busy hr fun k hk c => ?_
  have polling : (({ s with tocnt := c } : State).skipTicks k).AtPhase 0x8#4 p := ⟨h.busy, h.opr, h.phase, h.bitcnt_le⟩
  refine polling.sensor_missed hp ?_
  rw [State.input, State.skipTicks_inputAt]
  exact hdq k hk

end

/-! ### The waits on the sensor line -/

/-- Settles O31: the polls of the phase, all missed, by `State.MissesPolls.run_fails`. -/
theorem sensorWaitTimesOut : Obligations.SensorWaitTimesOut := by
  intro s n hb ho hbits hp hzero hlimit hpos hfits hr hdq
  have misses := State.AtPhase.sensor_missesPolls ⟨hb, ho, rfl, hbits⟩ hp hr hdq
  rw [hlimit] at misses
  exact misses.run_fails hzero hpos hfits

/-- Settles O32: the polls of the phase, all missed, by `State.MissesPolls.run_spins`. -/
theorem sensorWaitHangsWithoutLimit : Obligations.SensorWaitHangsWithoutLimit := by
  intro s n hb ho hbits hp hlimit hr hdq
  have misses := State.AtPhase.sensor_missesPolls ⟨hb, ho, rfl, hbits⟩ hp hr hdq
  rw [hlimit] at misses
  exact misses.run_spins

/-- Ticks that all meet the same need of the sensor line have no reset and that level. -/
theorem meets_replicate_dq {n : Nat} {level : Bool} {s : State} (h : meets (List.replicate n (Need.dq level)) s = true) :
    NoReset n s ∧ ∀ k < n, (s.inputAt k).dqI = level := by
  induction n generalizing s with
  | zero => exact ⟨fun k hk => by omega, fun k hk => by omega⟩
  | succ n ih =>
    obtain ⟨hneed, hr, hrest⟩ := meets_cons.1 h
    obtain ⟨hrs, hlevels⟩ := ih hrest
    refine ⟨fun k hk => ?_, fun k hk => ?_⟩
    · cases k with
      | zero => exact hr
      | succ k => simpa using hrs k (by omega)
    · cases k with
      | zero => exact eq_of_beq hneed
      | succ k => simpa using hlevels k (by omega)

/-- The needs after the acceptance tick are those of the command accepted. -/
theorem meets_accept {need : Need} {ns : List Need} {s : State} (i : Instr) (h : meets (need :: ns) s = true) :
    meets ns (s.accept i).nextTick = true := by
  obtain ⟨_, _, hrest⟩ := meets_cons.1 h
  exact (meets_congr fun k => by simp).trans hrest

/-- Requesting as a run, up to the first poll of phase 3. -/
theorem State.AtPhase.request_run {s : State} (h : s.AtPhase 0x8#4 0#4) {r : Nat} {rest : List Need}
    (hmeets : meets ([Need.anything] ++ (delayNeeds r ++ [Need.anything]) ++ rest) s = true) :
    run (r + 3) s = .next ((s.release.setPhase 3#4).skipTicks (r + 3)) ∧ meets rest ((s.release.setPhase 3#4).skipTicks (r + 3)) = true := by
  have ticks : ([Need.anything] ++ (delayNeeds r ++ [Need.anything])).length = r + 3 := by
    simp [delayNeeds]
  have request := h.request_leadsTo r 0 rest hmeets
  rwa [ticks, Nat.zero_add] at request

/-- Settles O30: the acceptance tick, Requesting by `State.AtPhase.request_run`, and the polls of phase 3, all missed. -/
theorem sensorAbsentTimesOut : Obligations.SensorAbsentTimesOut := by
  intro s n r hb hdq hlimit hpos hfits hmeets
  have accepted : (s.accept .sensorRead).nextTick.AtPhase 0x8#4 0#4 := s.accept_atPhase .sensorRead (show 0#6 ≤ 40#6 by decide)
  have needs : [Need.anything, Need.anything] ++ List.replicate r Need.delayHolds ++ [Need.delayEnds, Need.anything] ++
      List.replicate n (Need.dq true) =
      Need.anything :: ([Need.anything] ++ (delayNeeds r ++ [Need.anything]) ++ List.replicate n (Need.dq true)) := by
    simp [delayNeeds]
  rw [needs] at hmeets
  obtain ⟨request, polls⟩ := accepted.request_run (meets_accept .sensorRead hmeets)
  obtain ⟨hr, hhigh⟩ := meets_replicate_dq polls
  have released : (((s.accept .sensorRead).nextTick.release.setPhase 3#4).skipTicks (r + 3)).AtPhase 0x8#4 3#4 :=
    ⟨rfl, rfl, rfl, accepted.bitcnt_le⟩
  have misses : State.MissesPolls _ s.cfg.sensorTimeout (timeoutCode 3#4) n := released.sensor_missesPolls rfl hr hhigh
  rw [hlimit] at misses
  refine ⟨s.accept .sensorRead, exec_of_idle .sensorRead hb, ?_⟩
  have later : r + 4 + n = r + 3 + n + 1 := by omega
  rw [run_add (r + 3) n request, misses.run_fails rfl hpos hfits, later, State.skipTicks_succ _ (r + 3 + n),
    ← State.skipTicks_skipTicks _ (r + 3) n]
  cases s
  cases hdq
  rfl

/-! ### WAIT_ACK -/

/-- The block at the first poll of WAIT_ACK, but for the ticks gone by since `s`: latches high, phase 2 (40_bus_master.md R140, R141). -/
def State.ackPolling (s : State) : State :=
  { s with sclOut := true, sdaOut := true, busy := true, opr := 0x4#4, phase := 2#4, tocnt := 0, err := .none }

/-- The first of the two ticks between the acceptance of WAIT_ACK and its first poll. -/
theorem State.accept_waitAck_step {s : State} (hbits : s.bitcnt ≤ 40#6) (hr : NoReset 2 s) :
    ∃ u, step (s.accept .waitAck).nextTick = .next u ∧ u.busy = true := by
  have accepted := State.accept_atPhase (s := s) .waitAck hbits
  rw [step_of_busy (noReset_nextTick hr (s.accept_inputAt · .waitAck) 0 (by omega)) accepted.busy, accepted.ack_zero, endTick_next]
  exact ⟨_, rfl, rfl⟩

/-- The two ticks between the acceptance of WAIT_ACK and its first poll. -/
theorem State.accept_waitAck_shows {s : State} (hbits : s.bitcnt ≤ 40#6) (hr : NoReset 3 s) :
    RunShows (s.accept .waitAck).nextTick [(s.sclOut, true), (true, true)] (s.ackPolling.skipTicks 3) := by
  have accepted := State.accept_atPhase (s := s) .waitAck hbits
  refine accepted.shows_drive (noReset_nextTick hr (s.accept_inputAt · .waitAck)) accepted.ack_zero fun h hr =>
    h.shows_drive hr h.ack_one fun _ _ => .of_eq ?_
  rw [State.skipTicks_succ, State.skipTicks_succ, State.skipTicks_succ, State.skipTicks_zero]
  rfl

/-- With the data line high each tick from the first poll on misses. -/
theorem State.ackPolling_missesPolls {s : State} {n : Nat} (hbits : s.bitcnt ≤ 40#6) (hr : NoReset (n + 3) s)
    (hhigh : ∀ k < n, (s.inputAt (k + 3)).sdaI = true) : (s.ackPolling.skipTicks 3).MissesPolls s.cfg.ackTimeout .busAckTimeout n := by
  have polling : (s.ackPolling.skipTicks 3).AtPhase 0x4#4 2#4 := ⟨rfl, rfl, rfl, hbits⟩
  refine polling.ack_missesPolls (noReset_skipTicks (Nat.add_comm n 3 ▸ hr) fun _ => rfl) fun k hk => ?_
  rw [State.skipTicks_inputAt, Nat.add_comm]
  exact hhigh k hk

/-- Settles O26: the polls by `State.MissesPolls.run_fails`, and busy before the last of them by `State.MissesPolls.run_counts`. -/
theorem waitAckTimesOut : Obligations.WaitAckTimesOut := by
  intro s n hb hbits hlimit hpos hfits hr hhigh
  have first_poll := (State.accept_waitAck_shows hbits fun k hk => hr k (by omega)).run_eq (n := 2) rfl
  have misses := State.ackPolling_missesPolls hbits hr hhigh
  rw [hlimit] at misses
  refine ⟨s.accept .waitAck, exec_of_idle .waitAck hb, fun k hk => ?_, ?_⟩
  · match k with
    | 0 => exact ⟨_, run_zero _, rfl⟩
    | 1 =>
      obtain ⟨u, first, busy⟩ := State.accept_waitAck_step hbits fun k hk => hr k (by omega)
      exact ⟨u, run_succ_of_next 0 first, busy⟩
    | k + 2 =>
      rw [Nat.add_comm k 2, run_add 2 k first_poll, (misses.mono (by omega)).run_counts rfl (by omega) hfits]
      exact ⟨_, rfl, rfl⟩
  · rw [Nat.add_comm n 2, run_add 2 n first_poll, misses.run_fails rfl hpos hfits, Nat.add_comm n 3, ← State.skipTicks_skipTicks]
    rfl

/-- Settles O27: the polls by `State.MissesPolls.run_spins`. -/
theorem waitAckHangsWithoutLimit : Obligations.WaitAckHangsWithoutLimit := by
  intro s n hb hbits hlimit hr hhigh
  have first_poll := (State.accept_waitAck_shows hbits fun k hk => hr k (by omega)).run_eq (n := 2) rfl
  have misses := State.ackPolling_missesPolls hbits hr hhigh
  rw [hlimit] at misses
  refine ⟨s.accept .waitAck, exec_of_idle .waitAck hb, ?_⟩
  rw [Nat.add_comm n 2, run_add 2 n first_poll, misses.run_spins, State.skipTicks_skipTicks, Nat.add_comm n 3]
  rfl

/-! ### What a failure changes -/

section
variable {s t : State}

/-- A waiting step changes `ERR` only by failing: on a sample at the level waited on, at the limit. -/
theorem State.waitWhile_failure {l : InLine} {v : Bool} {limit : Option Nat} {code : Err} {nxt : Successor}
    (h : (s.waitWhile l v limit code nxt).err ≠ s.err) :
    s.waitWhile l v limit code nxt = s.fail code ∧ s.sample l = v ∧ ∃ n, limit = some n ∧ n ≤ s.tocnt + 1 := by
  rcases s.waitWhile_cases l v limit code nxt with ⟨_, e⟩ | ⟨_, _, e⟩ | ⟨hv, hlimit, e⟩ | ⟨_, _, e⟩
  · rw [e] at h
    cases nxt <;> exact absurd rfl h
  · rw [e] at h
    exact absurd rfl h
  · exact ⟨e, hv, hlimit⟩
  · rw [e] at h
    exact absurd rfl h

theorem State.delay_err (s : State) (p : BitVec 4) : (s.delay p).err = s.err := by
  obtain ⟨_, _, h⟩ := s.delay_writes p
  rw [h]

theorem nextTxBit_err (s : State) : (nextTxBit s).err = s.err := by
  obtain ⟨_, _, _, h⟩ := nextTxBit_writes s
  rw [h]

theorem startPhase_err (h : startPhase s = .next t) : t.err = s.err := by
  rcases startPhase_cases h with ⟨_, rfl⟩ | ⟨_, rfl⟩ | ⟨_, rfl⟩ | ⟨_, rfl⟩ <;> rfl

theorem stopPhase_err (h : stopPhase s = .next t) : t.err = s.err := by
  rcases stopPhase_cases h with ⟨_, rfl⟩ | ⟨_, rfl⟩ | ⟨_, rfl⟩ | ⟨_, rfl⟩ <;> rfl

theorem writeBytePhase_err (h : writeBytePhase s = .next t) : t.err = s.err := by
  rcases writeBytePhase_cases h with ⟨_, rfl⟩ | ⟨_, rfl⟩ | ⟨_, rfl⟩
  · rfl
  · rfl
  · exact nextTxBit_err _

/-- WAIT_ACK changes `ERR` only by failing in its phase 2 (60_exceptions.md R241). -/
theorem waitAckPhase_failure (h : waitAckPhase s = .next t) (herr : t.err ≠ s.err) :
    t = s.fail .busAckTimeout ∧ s.phase = 2#4 ∧ s.input.sdaI = true ∧ ∃ n, s.cfg.ackTimeout = some n ∧ n ≤ s.tocnt + 1 := by
  rcases waitAckPhase_cases h with ⟨_, rfl⟩ | ⟨_, rfl⟩ | ⟨hp, rfl⟩
  · exact absurd rfl herr
  · exact absurd rfl herr
  · obtain ⟨e, hv, hlimit⟩ := State.waitWhile_failure herr
    exact ⟨e, hp, hv, hlimit⟩

/-- Outside its polling phases SENSOR_READ leaves `ERR`. -/
theorem sensorReadPhase_err (h : sensorReadPhase s = .next t) (hp : sensorPolls s.phase = false) : t.err = s.err := by
  have nopoll {p : BitVec 4} (e : s.phase = p) (hpoll : sensorPolls p = true) : t.err = s.err := by
    simp [e, hpoll] at hp
  rcases sensorReadPhase_cases h with
    ⟨_, rfl⟩ | ⟨_, rfl⟩ | ⟨_, rfl⟩ | ⟨e, _⟩ | ⟨e, _⟩ | ⟨e, _⟩ | ⟨e, _⟩ | ⟨_, rfl⟩ | ⟨_, rfl⟩ | ⟨e, _⟩ | ⟨_, rfl⟩
  · rfl
  · exact s.delay_err _
  · rfl
  · exact nopoll e rfl
  · exact nopoll e rfl
  · exact nopoll e rfl
  · exact nopoll e rfl
  · exact s.delay_err _
  · rfl
  · exact nopoll e rfl
  · rfl

/-- SENSOR_READ changes `ERR` only by failing in a polling phase, with that phase's code (60_exceptions.md R242, R244). -/
theorem sensorReadPhase_failure (h : sensorReadPhase s = .next t) (herr : t.err ≠ s.err) :
    t = s.fail (timeoutCode s.phase) ∧ sensorPolls s.phase = true ∧ s.input.dqI = waitedLevel s.phase ∧
      ∃ n, s.cfg.sensorTimeout = some n ∧ n ≤ s.tocnt + 1 := by
  have polls : sensorPolls s.phase = true := by
    by_contra hp
    exact herr (sensorReadPhase_err h (Bool.eq_false_of_not_eq_true hp))
  rw [sensorReadPhase_of_poll polls] at h
  cases h
  obtain ⟨e, hv, hlimit⟩ := State.waitWhile_failure herr
  exact ⟨e, polls, hv, hlimit⟩

end

/-- Settles O42: only WAIT_ACK and SENSOR_READ change `ERR`, by `waitAckPhase_failure` and `sensorReadPhase_failure`. -/
theorem failureChangesNothingElse : Obligations.FailureChangesNothingElse := by
  intro s t hr hb ht herr
  rw [step_of_busy hr hb] at ht
  obtain ⟨u, hu, rfl⟩ := endTick_eq_next ht
  have herr : u.err ≠ s.err := herr
  obtain ⟨_, ⟨_, h⟩ | ⟨_, h⟩ | ⟨_, h⟩ | ⟨ho, h⟩ | ⟨ho, h⟩⟩ := runPhase_cases hu
  · exact absurd (startPhase_err h) herr
  · exact absurd (stopPhase_err h) herr
  · exact absurd (writeBytePhase_err h) herr
  · obtain ⟨rfl, hp, hsda, hlimit⟩ := waitAckPhase_failure h herr
    exact ⟨rfl, .inl ⟨rfl, ho, hp, hsda, hlimit⟩⟩
  · obtain ⟨rfl, polls, hdq, hlimit⟩ := sensorReadPhase_failure h herr
    refine ⟨rfl, .inr ?_⟩
    have code : (s.fail (timeoutCode s.phase)).nextTick.err = timeoutCode s.phase := rfl
    rw [code]
    rcases sensorPolls_iff.1 polls with e | e | e | e | e <;> rw [e] at hdq ⊢
    · exact .inl ⟨rfl, ho, .inl ⟨.inl rfl, hdq⟩, hlimit⟩
    · exact .inl ⟨rfl, ho, .inr ⟨rfl, hdq⟩, hlimit⟩
    · exact .inl ⟨rfl, ho, .inl ⟨.inr rfl, hdq⟩, hlimit⟩
    · exact .inr ⟨rfl, ho, .inl ⟨rfl, hdq⟩, hlimit⟩
    · exact .inr ⟨rfl, ho, .inr ⟨rfl, hdq⟩, hlimit⟩

end Sys2Proof.Machine
end

section
/-! Reset (70_reset_and_hazards.md R280), and what the timing primitive's contract (60_exceptions.md R257) makes of the two delays of SENSOR_READ:
how long the request holds the line low (R300) and when a bit is sampled after its rise (R294). -/

namespace Sys2Proof.Machine

/-- Settles O9: the reset tick leaves an idle block, which accepts the word presented on the next tick. -/
theorem resetTickFromEveryState : Obligations.ResetTickFromEveryState := by
  intro s hr
  refine ⟨step_of_reset hr, fun i hr' hv hi => ?_⟩
  have next_input : s.resetBlock.nextTick.input = s.inputAt 1 := s.resetBlock.nextTick_inputAt 0
  rw [← next_input] at hr' hv hi
  have accepted : step s.resetBlock.nextTick = .next (s.resetBlock.nextTick.accept i).nextTick := by
    rw [step_of_command hr' hv hi, exec_of_idle i rfl, endTick_next]
  obtain ⟨hb, ho, hp, _⟩ := s.resetBlock.nextTick.accept_sequencer i
  have both : run 2 s = .next (s.resetBlock.nextTick.accept i).nextTick := by
    rw [run_succ_of_next 1 (step_of_reset hr), run_succ_of_next 0 accepted, run_zero]
  exact ⟨_, both, hb, ho, hp⟩

/-! ### A delay under the contract -/

/-- `N_s` ticks last at least the duration and less than one tick more (R257). -/
theorem delayTicks_mul_bounds {tTick : Nat} (hpos : 0 < tTick) (duration : Nat) :
    duration ≤ Config.delayTicks tTick duration * tTick ∧ Config.delayTicks tTick duration * tTick < duration + tTick := by
  have above : duration + tTick - 1 < Config.delayTicks tTick duration * tTick + tTick := Nat.lt_div_mul_add hpos
  have below : Config.delayTicks tTick duration * tTick ≤ duration + tTick - 1 := Nat.div_mul_le_self _ _
  omega

/-- A run goes on with a phase of the command in progress. -/
theorem run_succ_of_runPhase {n : Nat} {s t u : State} (h : run n s = .next (t.skipTicks n)) (hb : t.busy = true)
    (hr : (t.inputAt n).rst = false) (hphase : runPhase (t.skipTicks n) = .next u) : run (n + 1) s = .next u.nextTick := by
  have unreset : (t.skipTicks n).input.rst = false := by rwa [State.input, State.skipTicks_inputAt]
  rw [run_add n 1 h, run_succ_of_next 0 (by rw [step_of_busy unreset hb, hphase, endTick_next]), run_zero]

/-- The same for a phase whose result has nothing to do with when it comes. -/
theorem run_succ_of_phase {n : Nat} {s t u : State} (h : run n s = .next (t.skipTicks n)) (hb : t.busy = true)
    (hr : (t.inputAt n).rst = false) (hphase : runPhase (t.skipTicks n) = .next (u.skipTicks n)) :
    run (n + 1) s = .next (u.skipTicks (n + 1)) := by
  rw [run_succ_of_runPhase h hb hr hphase, State.nextTick_eq_skipTicks, State.skipTicks_skipTicks]

/-- A request that rises on tick `q + 1` is answered `N_s` ticks later and not before (R257), in terms of the states of the run. -/
theorem PrimitiveObeys.answers {tTick horizon q n : Nat} {s t u : State} (h : PrimitiveObeys tTick horizon s) (ht : run q s = .next t)
    (hbefore : t.dlyReq = false) (hu : run (q + 1) s = .next u) (hrise : u.dlyReq = true)
    (hn : Config.delayTicks tTick (delayDuration u.dlySel) = n) (hlast : q + 1 + n < horizon) :
    (∀ j < n, (s.inputAt (q + 1 + j)).dlyDone = false) ∧ (s.inputAt (q + 1 + n)).dlyDone = true := by
  have quiet : requestAt s q = false := by rw [requestAt, ht]; exact hbefore
  have asks : requestAt s (q + 1) = true := by rw [requestAt, hu]; exact hrise
  have selects : selectAt s (q + 1) = u.dlySel := by rw [selectAt, hu]
  obtain ⟨_, answered⟩ := h
  obtain ⟨holds, ends⟩ := answered q (by omega) quiet asks
  rw [selects, hn] at holds ends
  exact ⟨fun j hj => holds j hj (by omega), ends hlast⟩

/-- A delay that SENSOR_READ enters on tick `q + 1` of a run under the contract: `N_s` ticks go by, and the tick after them moves on
(20_memory.md R68). -/
theorem State.AtPhase.delay_run {tTick horizon q n : Nat} {s t u : State} {p : BitVec 4} (hu : u.AtPhase 0x8#4 p) (hp : p = 1#4 ∨ p = 7#4)
    (hinputs : ∀ k, u.inputAt k = s.inputAt k) (hr : NoReset horizon s) (hobeys : PrimitiveObeys tTick horizon s)
    (before : run q s = .next t) (hbefore : t.dlyReq = false) (enters : run (q + 1) s = .next (u.skipTicks (q + 1)))
    (hn : Config.delayTicks tTick (delayDuration (p == 7#4)) = n) (hlast : q + 1 + n < horizon) :
    (∀ k, q + 1 ≤ k → k ≤ n + q + 1 → run k s = .next (u.skipTicks k)) ∧
    run (n + q + 2) s = .next ((u.setPhase (p + 1#4)).skipTicks (n + q + 2)) := by
  obtain ⟨asks, (selects : (u.skipTicks (q + 1)).dlySel = (p == 7#4))⟩ := (hu.skipTicks (q + 1)).sensor_delayRequest hp
  obtain ⟨holds, ends⟩ := hobeys.answers before hbefore enters asks (selects.symm ▸ hn) hlast
  have waits : ∀ k, q + 1 ≤ k → k ≤ n + q + 1 → run k s = .next (u.skipTicks k) := by
    intro k hfrom hto
    obtain ⟨j, rfl⟩ := Nat.exists_eq_add_of_le hfrom
    have hold : run j (u.skipTicks (q + 1)) = .next ((u.skipTicks (q + 1)).skipTicks j) :=
      unansweredDelayHangs _ j hu.busy hu.opr hu.bitcnt_le (hu.phase ▸ hp) (noReset_skipTicks (fun i hi => hr i (by omega)) hinputs)
        fun i hi => by rw [State.skipTicks_inputAt, hinputs]; exact holds i (by omega)
    rw [run_add _ j enters, hold, State.skipTicks_skipTicks]
  have answered : (u.skipTicks (n + q + 1)).input.dlyDone = true := by
    rw [State.input, State.skipTicks_inputAt, hinputs, Nat.add_zero, Nat.add_assoc, Nat.add_comm n]
    exact ends
  exact ⟨waits, run_succ_of_phase (waits _ (by omega) le_rfl) hu.busy (by rw [hinputs]; exact hr _ (by omega))
    ((hu.skipTicks _).sensor_delayEnds hp answered)⟩

/-! ### The request pulse -/

/-- SENSOR_READ waiting for the request delay, but for the ticks gone by since `s`: the line held low (41_sensor_engine.md R163). -/
def State.requesting (s : State) : State := (s.accept .sensorRead).driveLow.setPhase 1#4

theorem State.requesting_atPhase (s : State) : s.requesting.AtPhase 0x8#4 1#4 := ⟨rfl, rfl, rfl, show 0#6 ≤ 40#6 by decide⟩

/-- The acceptance tick of SENSOR_READ and its phase 0, as runs. -/
theorem run_sensorRead_requests {s : State} (hb : s.busy = false) (hv : s.input.cmdValid = true) (hi : decode s.input.cmd = .ok .sensorRead)
    (hr : NoReset 2 s) :
    run 1 s = .next ((s.accept .sensorRead).skipTicks 1) ∧ run 2 s = .next (s.requesting.skipTicks 2) := by
  have accepted : step s = .next (s.accept .sensorRead).nextTick := by
    rw [step_of_command (hr 0 (by omega)) hv hi, exec_of_idle _ hb, endTick_next]
  have first : run 1 s = .next ((s.accept .sensorRead).skipTicks 1) := by
    rw [run_succ_of_next 0 accepted, run_zero, State.nextTick_eq_skipTicks]
  have zero : ((s.accept .sensorRead).skipTicks 1).AtPhase 0x8#4 0#4 := ⟨rfl, rfl, rfl, show 0#6 ≤ 40#6 by decide⟩
  exact ⟨first, run_succ_of_phase first rfl (hr 1 (by omega)) zero.sensor_zero⟩

/-- Settles O34: the line is low from the tick after phase 0 through the delay (`State.AtPhase.delay_run`) and until phase 2 releases it. -/
theorem requestPulseIsLongEnough : Obligations.RequestPulseIsLongEnough := by
  intro s tTick hpos hb hdq hv hi hr hobeys
  obtain ⟨long, short⟩ := delayTicks_mul_bounds hpos Config.tReq
  generalize hn : Config.delayTicks tTick Config.tReq = n at *
  obtain ⟨accepted, enters⟩ := run_sensorRead_requests hb hv hi fun k hk => hr k (by omega)
  obtain ⟨waits, ends⟩ := s.requesting_atPhase.delay_run (s := s) (horizon := n + 5) (q := 1) (.inl rfl) (fun _ => rfl) hr hobeys accepted rfl
    enters hn (by omega)
  have two : (s.requesting.setPhase 2#4).AtPhase 0x8#4 2#4 := s.requesting_atPhase.setPhase 2#4
  have releases : run (n + 4) s = .next (((s.requesting.setPhase 2#4).release.setPhase 3#4).skipTicks (n + 4)) :=
    run_succ_of_phase ends rfl (hr (n + 3) (by omega)) (two.skipTicks _).sensor_two
  rw [Nat.add_mul]
  refine ⟨fun k hk => ?_, by omega, by omega⟩
  obtain rfl | rfl | ⟨hfrom, hto⟩ | rfl | rfl : k = 0 ∨ k = 1 ∨ (2 ≤ k ∧ k ≤ n + 2) ∨ k = n + 3 ∨ k = n + 4 := by omega
  · exact ⟨s, rfl, by simp [hdq]⟩
  · have free : (s.accept .sensorRead).dqOe = false := hdq
    exact ⟨_, accepted, by simp [free]⟩
  · exact ⟨_, waits k hfrom hto, iff_of_true rfl (by omega)⟩
  · exact ⟨_, ends, iff_of_true rfl (by omega)⟩
  · exact ⟨_, releases, iff_of_false Bool.false_ne_true (by omega)⟩

/-! ### The sample offset -/

/-- Settles O35: the poll that sees the line high enters the sample delay, and phase 8 takes the sample on the tick after it ends. -/
theorem sampleOffsetIsBounded : Obligations.SampleOffsetIsBounded := by
  intro s tTick hpos hb ho hp hroom hhigh hr hobeys
  obtain ⟨long, short⟩ := delayTicks_mul_bounds hpos Config.tSample
  generalize hn : Config.delayTicks tTick Config.tSample = n at *
  have six : s.AtPhase 0x8#4 6#4 := ⟨hb, ho, hp, BitVec.le_of_lt hroom⟩
  have seen : run 1 s = .next ((s.setPhase 7#4).skipTicks 1) :=
    run_succ_of_phase (n := 0) rfl hb (hr 0 (by omega)) (six.sensor_met rfl (by simp [hhigh, waitedLevel]))
  have no_request : s.dlyReq = false := by simp [State.dlyReq, hp]
  obtain ⟨_, ends⟩ := (six.setPhase 7#4).delay_run (s := s) (horizon := n + 3) (q := 0) (.inr rfl) (fun _ => rfl) hr hobeys rfl no_request seen
    hn (by omega)
  have eight : ((s.setPhase 7#4).setPhase 8#4).AtPhase 0x8#4 8#4 := (six.setPhase 7#4).setPhase 8#4
  have sampled := run_succ_of_runPhase (n := n + 2) ends hb (hr (n + 2) (by omega)) (eight.skipTicks _).sensor_eight
  have level : (((s.setPhase 7#4).setPhase 8#4).skipTicks (n + 2)).input = s.inputAt (n + 2) := State.skipTicks_inputAt _ _ 0
  refine ⟨⟨_, sampled, rfl, rfl, ?_⟩, fun rise seen hle hlt => ?_⟩
  · simp [level]
  · rw [Nat.add_mul]
    omega

end Sys2Proof.Machine
end
